-- ==== Sys2Proof/Word.lean ====
section
/-! DEFINITION. The word types of the SoundCortex synthesis engine (spec 00_scope.md section 6, 10_state.md).
Only the types stand here; every bit-field helper is in Decode.lean or under Machine/. -/

namespace Sys2Proof

/-- One register address or one written or returned value: a `u8` (20_memory.md R40). -/
abbrev Byte := BitVec 8

/-- A 12-bit period, of a tone oscillator (R11) or of a wavetable channel (R25). -/
abbrev Period := BitVec 12

/-- A phase accumulator or a limit: unsigned 32 bits, wrapping (R13, R14; spec decision D6). -/
abbrev Acc := BitVec 32

/-- The state of the noise shift register: 17 bits (R21). -/
abbrev Seed := BitVec 17

/-- The output word of a TICK: unsigned 16 bits (R163). -/
abbrev Sample := BitVec 16

/-- An event word `E[19:0]`, the serialised form of one operation (30_encoding.md R61). -/
abbrev EventWord := BitVec 20

/-- The number of tone channels, `N_PSG_CH` (R4: fixed at 3). -/
abbrev nPsgCh : Nat := 3

/-- The number of wavetable channels, `N_WT_CH` (R4: fixed at 5). -/
abbrev nWtCh : Nat := 5

/-- The length of one waveform table, `WAVE_LEN` (R4: fixed at 32). -/
abbrev waveLen : Nat := 32

/-- The two register spaces, selected by the `chip_select` of an operation (R35). -/
inductive ChipSelect where
  | psg
  | wt
deriving DecidableEq, Repr

end Sys2Proof
end

