-- ==== Sys2Proof/Syntax.lean ====
section
/-! DEFINITION. The operations of the hardware, one constructor for every mnemonic of spec/opcode_table.json
(30_encoding.md R65; a mnemonic the table spreads over several aligned address blocks is one constructor whose
address is its operand). After them, the forms of one shape indexed by their channel number (R63). -/

namespace Sys2Proof

/-- One operation (00_scope.md R6), its register address decoded (R63, R65). `v` is the written byte, `i` an
index into a waveform table, `reg` an address of a block that has no register of its own. -/
inductive Instr where
  /-- `PSGW.TPL0`. R80: write the low byte of the tone period of channel 0. -/
  | psgwTpl0 (v : Byte)
  /-- `PSGW.TPL1`. R80: write the low byte of the tone period of channel 1. -/
  | psgwTpl1 (v : Byte)
  /-- `PSGW.TPL2`. R80: write the low byte of the tone period of channel 2. -/
  | psgwTpl2 (v : Byte)
  /-- `PSGW.TPH0`. R81: write the high nibble of the tone period of channel 0. -/
  | psgwTph0 (v : Byte)
  /-- `PSGW.TPH1`. R81: write the high nibble of the tone period of channel 1. -/
  | psgwTph1 (v : Byte)
  /-- `PSGW.TPH2`. R81: write the high nibble of the tone period of channel 2. -/
  | psgwTph2 (v : Byte)
  /-- `PSGW.NP`. R82: write the noise period. -/
  | psgwNp (v : Byte)
  /-- `PSGW.MIX`. R83: write the mixer control register. -/
  | psgwMix (v : Byte)
  /-- `PSGW.LVL0`. R84, R88: write the level of channel 0. -/
  | psgwLvl0 (v : Byte)
  /-- `PSGW.LVL1`. R84, R88: write the level of channel 1. -/
  | psgwLvl1 (v : Byte)
  /-- `PSGW.LVL2`. R84, R88: write the level of channel 2. -/
  | psgwLvl2 (v : Byte)
  /-- `PSGW.ENV0`. R87: write envelope register 0: accepted, no effect. -/
  | psgwEnv0 (v : Byte)
  /-- `PSGW.ENV1`. R87: write envelope register 1: accepted, no effect. -/
  | psgwEnv1 (v : Byte)
  /-- `PSGW.ENV2`. R87: write envelope register 2: accepted, no effect. -/
  | psgwEnv2 (v : Byte)
  /-- `PSGW.R0E`. R85: write address 0x0e. -/
  | psgwR0e (v : Byte)
  /-- `PSGW.R0F`. R85: write address 0x0f. -/
  | psgwR0f (v : Byte)
  /-- `PSGW.UNK`. R90, R91: write an unknown PSG address, 0x10..0xfe. -/
  | psgwUnk (reg : Byte) (v : Byte)
  /-- `PSGW.CLK`. R89: write the virtual clock selector. -/
  | psgwClk (v : Byte)
  /-- `PSGR.TPL0`. R101: read the low byte of the tone period of channel 0. -/
  | psgrTpl0
  /-- `PSGR.TPL1`. R101: read the low byte of the tone period of channel 1. -/
  | psgrTpl1
  /-- `PSGR.TPL2`. R101: read the low byte of the tone period of channel 2. -/
  | psgrTpl2
  /-- `PSGR.TPH0`. R101: read the high nibble of the tone period of channel 0. -/
  | psgrTph0
  /-- `PSGR.TPH1`. R101: read the high nibble of the tone period of channel 1. -/
  | psgrTph1
  /-- `PSGR.TPH2`. R101: read the high nibble of the tone period of channel 2. -/
  | psgrTph2
  /-- `PSGR.NP`. R102: read the noise period. -/
  | psgrNp
  /-- `PSGR.MIX`. R102: read the mixer control register. -/
  | psgrMix
  /-- `PSGR.LVL0`. R102: read the level of channel 0. -/
  | psgrLvl0
  /-- `PSGR.LVL1`. R102: read the level of channel 1. -/
  | psgrLvl1
  /-- `PSGR.LVL2`. R102: read the level of channel 2. -/
  | psgrLvl2
  /-- `PSGR.ENV0`. R105: read envelope register 0: an unspecified byte. -/
  | psgrEnv0
  /-- `PSGR.ENV1`. R105: read envelope register 1: an unspecified byte. -/
  | psgrEnv1
  /-- `PSGR.ENV2`. R105: read envelope register 2: an unspecified byte. -/
  | psgrEnv2
  /-- `PSGR.R0E`. R105: read address 0x0e. -/
  | psgrR0e
  /-- `PSGR.R0F`. R105: read address 0x0f. -/
  | psgrR0f
  /-- `PSGR.UNK`. R106: read an unknown PSG address, 0x10..0xfd. -/
  | psgrUnk (reg : Byte)
  /-- `PSGR.VMIN`. R103: read the minor version. -/
  | psgrVmin
  /-- `PSGR.VMAJ`. R104: read the major version. -/
  | psgrVmaj
  /-- `WTW.WAVE0`. R130: write waveform byte `i` of channel 0. -/
  | wtwWave0 (i : BitVec 5) (v : Byte)
  /-- `WTW.WAVE1`. R130: write waveform byte `i` of channel 1. -/
  | wtwWave1 (i : BitVec 5) (v : Byte)
  /-- `WTW.WAVE2`. R130: write waveform byte `i` of channel 2. -/
  | wtwWave2 (i : BitVec 5) (v : Byte)
  /-- `WTW.WAVE3`. R130: write waveform byte `i` of channel 3. -/
  | wtwWave3 (i : BitVec 5) (v : Byte)
  /-- `WTW.WAVE4`. R130: write waveform byte `i` of channel 4. -/
  | wtwWave4 (i : BitVec 5) (v : Byte)
  /-- `WTW.PERL0`. R131: write the even period address of channel 0. -/
  | wtwPerl0 (v : Byte)
  /-- `WTW.PERL1`. R131: write the even period address of channel 1. -/
  | wtwPerl1 (v : Byte)
  /-- `WTW.PERL2`. R131: write the even period address of channel 2. -/
  | wtwPerl2 (v : Byte)
  /-- `WTW.PERL3`. R131: write the even period address of channel 3. -/
  | wtwPerl3 (v : Byte)
  /-- `WTW.PERL4`. R131: write the even period address of channel 4. -/
  | wtwPerl4 (v : Byte)
  /-- `WTW.PERH0`. R132: write the odd period address of channel 0. -/
  | wtwPerh0 (v : Byte)
  /-- `WTW.PERH1`. R132: write the odd period address of channel 1. -/
  | wtwPerh1 (v : Byte)
  /-- `WTW.PERH2`. R132: write the odd period address of channel 2. -/
  | wtwPerh2 (v : Byte)
  /-- `WTW.PERH3`. R132: write the odd period address of channel 3. -/
  | wtwPerh3 (v : Byte)
  /-- `WTW.PERH4`. R132: write the odd period address of channel 4. -/
  | wtwPerh4 (v : Byte)
  /-- `WTW.VOL0`. R133: write the volume of channel 0. -/
  | wtwVol0 (v : Byte)
  /-- `WTW.VOL1`. R133: write the volume of channel 1. -/
  | wtwVol1 (v : Byte)
  /-- `WTW.VOL2`. R133: write the volume of channel 2. -/
  | wtwVol2 (v : Byte)
  /-- `WTW.VOL3`. R133: write the volume of channel 3. -/
  | wtwVol3 (v : Byte)
  /-- `WTW.VOL4`. R133: write the volume of channel 4. -/
  | wtwVol4 (v : Byte)
  /-- `WTW.MUTE`. R134: write the channel mute mask. -/
  | wtwMute (v : Byte)
  /-- `WTW.HIGH`. R140: write an address in 0xb0..0xff. -/
  | wtwHigh (reg : Byte) (v : Byte)
  /-- `WTR.WAVE0`. R142: read waveform byte `i` of channel 0. -/
  | wtrWave0 (i : BitVec 5)
  /-- `WTR.WAVE1`. R142: read waveform byte `i` of channel 1. -/
  | wtrWave1 (i : BitVec 5)
  /-- `WTR.WAVE2`. R142: read waveform byte `i` of channel 2. -/
  | wtrWave2 (i : BitVec 5)
  /-- `WTR.WAVE3`. R142: read waveform byte `i` of channel 3. -/
  | wtrWave3 (i : BitVec 5)
  /-- `WTR.WAVE4`. R142: read waveform byte `i` of channel 4. -/
  | wtrWave4 (i : BitVec 5)
  /-- `WTR.PERL0`. R143: read the even period address of channel 0. -/
  | wtrPerl0
  /-- `WTR.PERL1`. R143: read the even period address of channel 1. -/
  | wtrPerl1
  /-- `WTR.PERL2`. R143: read the even period address of channel 2. -/
  | wtrPerl2
  /-- `WTR.PERL3`. R143: read the even period address of channel 3. -/
  | wtrPerl3
  /-- `WTR.PERL4`. R143: read the even period address of channel 4. -/
  | wtrPerl4
  /-- `WTR.PERH0`. R143: read the odd period address of channel 0. -/
  | wtrPerh0
  /-- `WTR.PERH1`. R143: read the odd period address of channel 1. -/
  | wtrPerh1
  /-- `WTR.PERH2`. R143: read the odd period address of channel 2. -/
  | wtrPerh2
  /-- `WTR.PERH3`. R143: read the odd period address of channel 3. -/
  | wtrPerh3
  /-- `WTR.PERH4`. R143: read the odd period address of channel 4. -/
  | wtrPerh4
  /-- `WTR.VOL0`. R144: read the volume of channel 0. -/
  | wtrVol0
  /-- `WTR.VOL1`. R144: read the volume of channel 1. -/
  | wtrVol1
  /-- `WTR.VOL2`. R144: read the volume of channel 2. -/
  | wtrVol2
  /-- `WTR.VOL3`. R144: read the volume of channel 3. -/
  | wtrVol3
  /-- `WTR.VOL4`. R144: read the volume of channel 4. -/
  | wtrVol4
  /-- `WTR.MUTE`. R144: read the channel mute mask. -/
  | wtrMute
  /-- `WTR.HIGH`. R145: read an address in 0xb0..0xff. -/
  | wtrHigh (reg : Byte)
  /-- `TICK`. R160: render one sample. -/
  | tick
  /-- `RESET`. R200: device initialisation. -/
  | reset
  /-- `RSVD`. R62: the reserved event kind, no operation of the hardware: never decoded, never well formed. -/
  | rsvd (payload : BitVec 18)
deriving DecidableEq, Repr

namespace Instr

/-- The row mnemonic of spec/opcode_table.json that an operation stands for (R65). -/
def mnemonic : Instr → String
  | .psgwTpl0 _ => "PSGW.TPL0"
  | .psgwTpl1 _ => "PSGW.TPL1"
  | .psgwTpl2 _ => "PSGW.TPL2"
  | .psgwTph0 _ => "PSGW.TPH0"
  | .psgwTph1 _ => "PSGW.TPH1"
  | .psgwTph2 _ => "PSGW.TPH2"
  | .psgwNp _ => "PSGW.NP"
  | .psgwMix _ => "PSGW.MIX"
  | .psgwLvl0 _ => "PSGW.LVL0"
  | .psgwLvl1 _ => "PSGW.LVL1"
  | .psgwLvl2 _ => "PSGW.LVL2"
  | .psgwEnv0 _ => "PSGW.ENV0"
  | .psgwEnv1 _ => "PSGW.ENV1"
  | .psgwEnv2 _ => "PSGW.ENV2"
  | .psgwR0e _ => "PSGW.R0E"
  | .psgwR0f _ => "PSGW.R0F"
  | .psgwUnk _ _ => "PSGW.UNK"
  | .psgwClk _ => "PSGW.CLK"
  | .psgrTpl0 => "PSGR.TPL0"
  | .psgrTpl1 => "PSGR.TPL1"
  | .psgrTpl2 => "PSGR.TPL2"
  | .psgrTph0 => "PSGR.TPH0"
  | .psgrTph1 => "PSGR.TPH1"
  | .psgrTph2 => "PSGR.TPH2"
  | .psgrNp => "PSGR.NP"
  | .psgrMix => "PSGR.MIX"
  | .psgrLvl0 => "PSGR.LVL0"
  | .psgrLvl1 => "PSGR.LVL1"
  | .psgrLvl2 => "PSGR.LVL2"
  | .psgrEnv0 => "PSGR.ENV0"
  | .psgrEnv1 => "PSGR.ENV1"
  | .psgrEnv2 => "PSGR.ENV2"
  | .psgrR0e => "PSGR.R0E"
  | .psgrR0f => "PSGR.R0F"
  | .psgrUnk _ => "PSGR.UNK"
  | .psgrVmin => "PSGR.VMIN"
  | .psgrVmaj => "PSGR.VMAJ"
  | .wtwWave0 _ _ => "WTW.WAVE0"
  | .wtwWave1 _ _ => "WTW.WAVE1"
  | .wtwWave2 _ _ => "WTW.WAVE2"
  | .wtwWave3 _ _ => "WTW.WAVE3"
  | .wtwWave4 _ _ => "WTW.WAVE4"
  | .wtwPerl0 _ => "WTW.PERL0"
  | .wtwPerl1 _ => "WTW.PERL1"
  | .wtwPerl2 _ => "WTW.PERL2"
  | .wtwPerl3 _ => "WTW.PERL3"
  | .wtwPerl4 _ => "WTW.PERL4"
  | .wtwPerh0 _ => "WTW.PERH0"
  | .wtwPerh1 _ => "WTW.PERH1"
  | .wtwPerh2 _ => "WTW.PERH2"
  | .wtwPerh3 _ => "WTW.PERH3"
  | .wtwPerh4 _ => "WTW.PERH4"
  | .wtwVol0 _ => "WTW.VOL0"
  | .wtwVol1 _ => "WTW.VOL1"
  | .wtwVol2 _ => "WTW.VOL2"
  | .wtwVol3 _ => "WTW.VOL3"
  | .wtwVol4 _ => "WTW.VOL4"
  | .wtwMute _ => "WTW.MUTE"
  | .wtwHigh _ _ => "WTW.HIGH"
  | .wtrWave0 _ => "WTR.WAVE0"
  | .wtrWave1 _ => "WTR.WAVE1"
  | .wtrWave2 _ => "WTR.WAVE2"
  | .wtrWave3 _ => "WTR.WAVE3"
  | .wtrWave4 _ => "WTR.WAVE4"
  | .wtrPerl0 => "WTR.PERL0"
  | .wtrPerl1 => "WTR.PERL1"
  | .wtrPerl2 => "WTR.PERL2"
  | .wtrPerl3 => "WTR.PERL3"
  | .wtrPerl4 => "WTR.PERL4"
  | .wtrPerh0 => "WTR.PERH0"
  | .wtrPerh1 => "WTR.PERH1"
  | .wtrPerh2 => "WTR.PERH2"
  | .wtrPerh3 => "WTR.PERH3"
  | .wtrPerh4 => "WTR.PERH4"
  | .wtrVol0 => "WTR.VOL0"
  | .wtrVol1 => "WTR.VOL1"
  | .wtrVol2 => "WTR.VOL2"
  | .wtrVol3 => "WTR.VOL3"
  | .wtrVol4 => "WTR.VOL4"
  | .wtrMute => "WTR.MUTE"
  | .wtrHigh _ => "WTR.HIGH"
  | .tick => "TICK"
  | .reset => "RESET"
  | .rsvd _ => "RSVD"

/-- `PSGW.TPLc` for tone channel `c` (R80). -/
def psgwTpl (c : Fin 3) (v : Byte) : Instr :=
  match c with
  | 0 => .psgwTpl0 v
  | 1 => .psgwTpl1 v
  | 2 => .psgwTpl2 v

/-- `PSGW.TPHc` for tone channel `c` (R81). -/
def psgwTph (c : Fin 3) (v : Byte) : Instr :=
  match c with
  | 0 => .psgwTph0 v
  | 1 => .psgwTph1 v
  | 2 => .psgwTph2 v

/-- `PSGW.LVLc` for tone channel `c` (R84). -/
def psgwLvl (c : Fin 3) (v : Byte) : Instr :=
  match c with
  | 0 => .psgwLvl0 v
  | 1 => .psgwLvl1 v
  | 2 => .psgwLvl2 v

/-- `PSGW.ENVc` (R87). -/
def psgwEnv (c : Fin 3) (v : Byte) : Instr :=
  match c with
  | 0 => .psgwEnv0 v
  | 1 => .psgwEnv1 v
  | 2 => .psgwEnv2 v

/-- `PSGW.R0E` and `PSGW.R0F` (R85). -/
def psgwIo (c : Fin 2) (v : Byte) : Instr :=
  match c with
  | 0 => .psgwR0e v
  | 1 => .psgwR0f v

/-- `PSGR.TPLc` for tone channel `c` (R101). -/
def psgrTpl (c : Fin 3) : Instr :=
  match c with
  | 0 => .psgrTpl0
  | 1 => .psgrTpl1
  | 2 => .psgrTpl2

/-- `PSGR.TPHc` for tone channel `c` (R101). -/
def psgrTph (c : Fin 3) : Instr :=
  match c with
  | 0 => .psgrTph0
  | 1 => .psgrTph1
  | 2 => .psgrTph2

/-- `PSGR.LVLc` for tone channel `c` (R102). -/
def psgrLvl (c : Fin 3) : Instr :=
  match c with
  | 0 => .psgrLvl0
  | 1 => .psgrLvl1
  | 2 => .psgrLvl2

/-- `PSGR.ENVc` (R105). -/
def psgrEnv (c : Fin 3) : Instr :=
  match c with
  | 0 => .psgrEnv0
  | 1 => .psgrEnv1
  | 2 => .psgrEnv2

/-- `PSGR.R0E` and `PSGR.R0F` (R105). -/
def psgrIo (c : Fin 2) : Instr :=
  match c with
  | 0 => .psgrR0e
  | 1 => .psgrR0f

/-- `WTW.WAVEch` for wavetable channel `ch` (R130). -/
def wtwWave (c : Fin 5) (i : BitVec 5) (v : Byte) : Instr :=
  match c with
  | 0 => .wtwWave0 i v
  | 1 => .wtwWave1 i v
  | 2 => .wtwWave2 i v
  | 3 => .wtwWave3 i v
  | 4 => .wtwWave4 i v

/-- `WTW.PERLch` for wavetable channel `ch` (R131). -/
def wtwPerl (c : Fin 5) (v : Byte) : Instr :=
  match c with
  | 0 => .wtwPerl0 v
  | 1 => .wtwPerl1 v
  | 2 => .wtwPerl2 v
  | 3 => .wtwPerl3 v
  | 4 => .wtwPerl4 v

/-- `WTW.PERHch` for wavetable channel `ch` (R132). -/
def wtwPerh (c : Fin 5) (v : Byte) : Instr :=
  match c with
  | 0 => .wtwPerh0 v
  | 1 => .wtwPerh1 v
  | 2 => .wtwPerh2 v
  | 3 => .wtwPerh3 v
  | 4 => .wtwPerh4 v

/-- `WTW.VOLch` for wavetable channel `ch` (R133). -/
def wtwVol (c : Fin 5) (v : Byte) : Instr :=
  match c with
  | 0 => .wtwVol0 v
  | 1 => .wtwVol1 v
  | 2 => .wtwVol2 v
  | 3 => .wtwVol3 v
  | 4 => .wtwVol4 v

/-- `WTR.WAVEch` for wavetable channel `ch` (R142). -/
def wtrWave (c : Fin 5) (i : BitVec 5) : Instr :=
  match c with
  | 0 => .wtrWave0 i
  | 1 => .wtrWave1 i
  | 2 => .wtrWave2 i
  | 3 => .wtrWave3 i
  | 4 => .wtrWave4 i

/-- `WTR.PERLch` for wavetable channel `ch` (R143). -/
def wtrPerl (c : Fin 5) : Instr :=
  match c with
  | 0 => .wtrPerl0
  | 1 => .wtrPerl1
  | 2 => .wtrPerl2
  | 3 => .wtrPerl3
  | 4 => .wtrPerl4

/-- `WTR.PERHch` for wavetable channel `ch` (R143). -/
def wtrPerh (c : Fin 5) : Instr :=
  match c with
  | 0 => .wtrPerh0
  | 1 => .wtrPerh1
  | 2 => .wtrPerh2
  | 3 => .wtrPerh3
  | 4 => .wtrPerh4

/-- `WTR.VOLch` for wavetable channel `ch` (R144). -/
def wtrVol (c : Fin 5) : Instr :=
  match c with
  | 0 => .wtrVol0
  | 1 => .wtrVol1
  | 2 => .wtrVol2
  | 3 => .wtrVol3
  | 4 => .wtrVol4

end Instr

end Sys2Proof
end

