-- ==== Sys2Proof/WellFormed.lean ====
section
/-! DEFINITION. Which terms of `Instr` are operations of the hardware: the address operands of the forms that
stand for a block of addresses lie in that block (R65), and the reserved event kind is no operation (R62).
Well-formedness of a configuration is in Config.lean. -/

namespace Sys2Proof.Instr

/-- The well-formed operations: what the decoder can answer. -/
def wellFormed : Instr → Bool
  | .psgwTpl0 _ => true
  | .psgwTpl1 _ => true
  | .psgwTpl2 _ => true
  | .psgwTph0 _ => true
  | .psgwTph1 _ => true
  | .psgwTph2 _ => true
  | .psgwNp _ => true
  | .psgwMix _ => true
  | .psgwLvl0 _ => true
  | .psgwLvl1 _ => true
  | .psgwLvl2 _ => true
  | .psgwEnv0 _ => true
  | .psgwEnv1 _ => true
  | .psgwEnv2 _ => true
  | .psgwR0e _ => true
  | .psgwR0f _ => true
  | .psgwUnk reg _ => decide (0x10 ≤ reg.toNat ∧ reg.toNat ≤ 0xfe)
  | .psgwClk _ => true
  | .psgrTpl0 => true
  | .psgrTpl1 => true
  | .psgrTpl2 => true
  | .psgrTph0 => true
  | .psgrTph1 => true
  | .psgrTph2 => true
  | .psgrNp => true
  | .psgrMix => true
  | .psgrLvl0 => true
  | .psgrLvl1 => true
  | .psgrLvl2 => true
  | .psgrEnv0 => true
  | .psgrEnv1 => true
  | .psgrEnv2 => true
  | .psgrR0e => true
  | .psgrR0f => true
  | .psgrUnk reg => decide (0x10 ≤ reg.toNat ∧ reg.toNat ≤ 0xfd)
  | .psgrVmin => true
  | .psgrVmaj => true
  | .wtwWave0 _ _ => true
  | .wtwWave1 _ _ => true
  | .wtwWave2 _ _ => true
  | .wtwWave3 _ _ => true
  | .wtwWave4 _ _ => true
  | .wtwPerl0 _ => true
  | .wtwPerl1 _ => true
  | .wtwPerl2 _ => true
  | .wtwPerl3 _ => true
  | .wtwPerl4 _ => true
  | .wtwPerh0 _ => true
  | .wtwPerh1 _ => true
  | .wtwPerh2 _ => true
  | .wtwPerh3 _ => true
  | .wtwPerh4 _ => true
  | .wtwVol0 _ => true
  | .wtwVol1 _ => true
  | .wtwVol2 _ => true
  | .wtwVol3 _ => true
  | .wtwVol4 _ => true
  | .wtwMute _ => true
  | .wtwHigh reg _ => decide (0xb0 ≤ reg.toNat)
  | .wtrWave0 _ => true
  | .wtrWave1 _ => true
  | .wtrWave2 _ => true
  | .wtrWave3 _ => true
  | .wtrWave4 _ => true
  | .wtrPerl0 => true
  | .wtrPerl1 => true
  | .wtrPerl2 => true
  | .wtrPerl3 => true
  | .wtrPerl4 => true
  | .wtrPerh0 => true
  | .wtrPerh1 => true
  | .wtrPerh2 => true
  | .wtrPerh3 => true
  | .wtrPerh4 => true
  | .wtrVol0 => true
  | .wtrVol1 => true
  | .wtrVol2 => true
  | .wtrVol3 => true
  | .wtrVol4 => true
  | .wtrMute => true
  | .wtrHigh reg => decide (0xb0 ≤ reg.toNat)
  | .tick => true
  | .reset => true
  | .rsvd _ => false

end Sys2Proof.Instr
end

