-- ==== Sys2Proof/Decode.lean ====
section
/-! DEFINITION. The decoder of an event word (30_encoding.md R61 to R65), total, rejecting by name; the encoder
written from the same table; the canonical word; the pseudo-operations of R73. -/

namespace Sys2Proof

/-- Why a number is not the event word of an operation. -/
inductive DecodeError where
  /-- `kind = 3`: no operation of the hardware (R62). -/
  | reservedKind
  /-- The number needs more than the 20 bits of an event word (R61, R71). -/
  | notAnEventWord
deriving DecidableEq, Repr

namespace Event

/-- `kind = E[19:18]` (R61). -/
def kind (w : EventWord) : BitVec 2 := w.extractLsb' 18 2

/-- `cs = E[17]` (R61). -/
def cs (w : EventWord) : BitVec 1 := w.extractLsb' 17 1

/-- `rw = E[16]` (R61). -/
def rw (w : EventWord) : BitVec 1 := w.extractLsb' 16 1

/-- `reg = E[15:8]` (R61). -/
def reg (w : EventWord) : Byte := w.extractLsb' 8 8

/-- `value = E[7:0]` (R61). -/
def value (w : EventWord) : Byte := w.extractLsb' 0 8

/-- An event word from its five fields (R61). -/
def pack (kind : BitVec 2) (cs rw : BitVec 1) (reg value : Byte) : EventWord :=
  kind ++ cs ++ rw ++ reg ++ value

/-- `PSGW reg, value` = `0x00000 | reg << 8 | value` (R72). -/
def psgW (reg value : Byte) : EventWord := pack 0 0 0 reg value

/-- `PSGR reg` = `0x10000 | reg << 8` (R72). -/
def psgR (reg : Byte) : EventWord := pack 0 0 1 reg 0

/-- `WTW reg, value` = `0x20000 | reg << 8 | value` (R72). -/
def wtW (reg value : Byte) : EventWord := pack 0 1 0 reg value

/-- `WTR reg` = `0x30000 | reg << 8` (R72). -/
def wtR (reg : Byte) : EventWord := pack 0 1 1 reg 0

/-- `TICK` = `0x40000` (R72). -/
def tick : EventWord := pack 1 0 0 0 0

/-- `RESET` = `0x80000` (R72). -/
def reset : EventWord := pack 2 0 0 0 0

/-- The word with every IGNORED field zero (R61): `value` unless the word is a register write, and everything
below `kind` unless it is a register operation. -/
def canonical (w : EventWord) : EventWord :=
  if kind w = 0 then
    (if rw w = 0 then w else pack 0 (cs w) 1 (reg w) 0)
  else pack (kind w) 0 0 0 0

end Event

/-- The form of a PSG register write (R65, R86), selected by the address alone. -/
def decodePsgWrite (reg v : Byte) : Instr :=
  match reg.toNat with
  | 0x00 => .psgwTpl0 v
  | 0x01 => .psgwTph0 v
  | 0x02 => .psgwTpl1 v
  | 0x03 => .psgwTph1 v
  | 0x04 => .psgwTpl2 v
  | 0x05 => .psgwTph2 v
  | 0x06 => .psgwNp v
  | 0x07 => .psgwMix v
  | 0x08 => .psgwLvl0 v
  | 0x09 => .psgwLvl1 v
  | 0x0a => .psgwLvl2 v
  | 0x0b => .psgwEnv0 v
  | 0x0c => .psgwEnv1 v
  | 0x0d => .psgwEnv2 v
  | 0x0e => .psgwR0e v
  | 0x0f => .psgwR0f v
  | 0xff => .psgwClk v
  | _ => .psgwUnk reg v

/-- The form of a PSG register read (R65, R100), selected by the address alone. -/
def decodePsgRead (reg : Byte) : Instr :=
  match reg.toNat with
  | 0x00 => .psgrTpl0
  | 0x01 => .psgrTph0
  | 0x02 => .psgrTpl1
  | 0x03 => .psgrTph1
  | 0x04 => .psgrTpl2
  | 0x05 => .psgrTph2
  | 0x06 => .psgrNp
  | 0x07 => .psgrMix
  | 0x08 => .psgrLvl0
  | 0x09 => .psgrLvl1
  | 0x0a => .psgrLvl2
  | 0x0b => .psgrEnv0
  | 0x0c => .psgrEnv1
  | 0x0d => .psgrEnv2
  | 0x0e => .psgrR0e
  | 0x0f => .psgrR0f
  | 0xfe => .psgrVmin
  | 0xff => .psgrVmaj
  | _ => .psgrUnk reg

/-- The index into a waveform table, `i = reg & 0x1f` (R63). -/
def waveIndex (reg : Byte) : BitVec 5 := reg.extractLsb' 0 5

/-- The register address of byte `i` of table `ch`, `0x20 * ch + i` (R63, R72). -/
def waveReg (ch : BitVec 3) (i : BitVec 5) : Byte := ch ++ i

/-- The form of a WT write to 0xa0..0xff (R65, R141), selected by the address alone. -/
def decodeWtWriteHigh (reg v : Byte) : Instr :=
  match reg.toNat with
  | 0xa0 => .wtwPerl0 v
  | 0xa1 => .wtwPerh0 v
  | 0xa2 => .wtwPerl1 v
  | 0xa3 => .wtwPerh1 v
  | 0xa4 => .wtwPerl2 v
  | 0xa5 => .wtwPerh2 v
  | 0xa6 => .wtwPerl3 v
  | 0xa7 => .wtwPerh3 v
  | 0xa8 => .wtwPerl4 v
  | 0xa9 => .wtwPerh4 v
  | 0xaa => .wtwVol0 v
  | 0xab => .wtwVol1 v
  | 0xac => .wtwVol2 v
  | 0xad => .wtwVol3 v
  | 0xae => .wtwVol4 v
  | 0xaf => .wtwMute v
  | _ => .wtwHigh reg v

/-- The form of a WT register write (R65, R141): below 0xa0 the channel is `reg >> 5` (R63). -/
def decodeWtWrite (reg v : Byte) : Instr :=
  match reg.toNat / 32 with
  | 0 => .wtwWave0 (waveIndex reg) v
  | 1 => .wtwWave1 (waveIndex reg) v
  | 2 => .wtwWave2 (waveIndex reg) v
  | 3 => .wtwWave3 (waveIndex reg) v
  | 4 => .wtwWave4 (waveIndex reg) v
  | _ => decodeWtWriteHigh reg v

/-- The form of a WT read of 0xa0..0xff (R65, R146), selected by the address alone. -/
def decodeWtReadHigh (reg : Byte) : Instr :=
  match reg.toNat with
  | 0xa0 => .wtrPerl0
  | 0xa1 => .wtrPerh0
  | 0xa2 => .wtrPerl1
  | 0xa3 => .wtrPerh1
  | 0xa4 => .wtrPerl2
  | 0xa5 => .wtrPerh2
  | 0xa6 => .wtrPerl3
  | 0xa7 => .wtrPerh3
  | 0xa8 => .wtrPerl4
  | 0xa9 => .wtrPerh4
  | 0xaa => .wtrVol0
  | 0xab => .wtrVol1
  | 0xac => .wtrVol2
  | 0xad => .wtrVol3
  | 0xae => .wtrVol4
  | 0xaf => .wtrMute
  | _ => .wtrHigh reg

/-- The form of a WT register read (R65, R146): below 0xa0 the channel is `reg >> 5` (R63). -/
def decodeWtRead (reg : Byte) : Instr :=
  match reg.toNat / 32 with
  | 0 => .wtrWave0 (waveIndex reg)
  | 1 => .wtrWave1 (waveIndex reg)
  | 2 => .wtrWave2 (waveIndex reg)
  | 3 => .wtrWave3 (waveIndex reg)
  | 4 => .wtrWave4 (waveIndex reg)
  | _ => decodeWtReadHigh reg

/-- The register operation that `cs`, `rw`, `reg` and `value` select (R62): every one of them decodes. -/
def decodeRegisterOp (cs rw : BitVec 1) (reg value : Byte) : Instr :=
  if cs = 0 then
    (if rw = 0 then decodePsgWrite reg value else decodePsgRead reg)
  else
    (if rw = 0 then decodeWtWrite reg value else decodeWtRead reg)

/-- An operation, or the name of the reason why the word is none (R62). -/
def decode (w : EventWord) : Except DecodeError Instr :=
  match (Event.kind w).toNat with
  | 0 => .ok (decodeRegisterOp (Event.cs w) (Event.rw w) (Event.reg w) (Event.value w))
  | 1 => .ok .tick
  | 2 => .ok .reset
  | _ => .error .reservedKind

/-- The event word that a number is, if it fits the 20 bits of one (R61, R71). -/
def eventWord (n : Nat) : Except DecodeError EventWord :=
  if n < 2 ^ 20 then .ok (BitVec.ofNat 20 n) else .error .notAnEventWord

/-- Decoding of a number as spec/opcode_table.json numbers the bits. -/
def decodeNat (n : Nat) : Except DecodeError Instr :=
  match eventWord n with
  | .ok w => decode w
  | .error e => .error e

/-- The host's question to the decoder: an event word is 20 bits however many of them a table row gives
(`nbits`), and the bits above are 0. -/
def decodeTableWord (_nbits w : Nat) : Option Instr :=
  match decodeNat w with
  | .ok i => some i
  | .error _ => none

/-- The canonical event word of an operation (R61, R72). A well-formed operation's word decodes to it; the
reserved kind's word is what the decoder refuses. -/
def encode : Instr → EventWord
  | .psgwTpl0 v => Event.psgW 0x00 v
  | .psgwTpl1 v => Event.psgW 0x02 v
  | .psgwTpl2 v => Event.psgW 0x04 v
  | .psgwTph0 v => Event.psgW 0x01 v
  | .psgwTph1 v => Event.psgW 0x03 v
  | .psgwTph2 v => Event.psgW 0x05 v
  | .psgwNp v => Event.psgW 0x06 v
  | .psgwMix v => Event.psgW 0x07 v
  | .psgwLvl0 v => Event.psgW 0x08 v
  | .psgwLvl1 v => Event.psgW 0x09 v
  | .psgwLvl2 v => Event.psgW 0x0a v
  | .psgwEnv0 v => Event.psgW 0x0b v
  | .psgwEnv1 v => Event.psgW 0x0c v
  | .psgwEnv2 v => Event.psgW 0x0d v
  | .psgwR0e v => Event.psgW 0x0e v
  | .psgwR0f v => Event.psgW 0x0f v
  | .psgwUnk reg v => Event.psgW reg v
  | .psgwClk v => Event.psgW 0xff v
  | .psgrTpl0 => Event.psgR 0x00
  | .psgrTpl1 => Event.psgR 0x02
  | .psgrTpl2 => Event.psgR 0x04
  | .psgrTph0 => Event.psgR 0x01
  | .psgrTph1 => Event.psgR 0x03
  | .psgrTph2 => Event.psgR 0x05
  | .psgrNp => Event.psgR 0x06
  | .psgrMix => Event.psgR 0x07
  | .psgrLvl0 => Event.psgR 0x08
  | .psgrLvl1 => Event.psgR 0x09
  | .psgrLvl2 => Event.psgR 0x0a
  | .psgrEnv0 => Event.psgR 0x0b
  | .psgrEnv1 => Event.psgR 0x0c
  | .psgrEnv2 => Event.psgR 0x0d
  | .psgrR0e => Event.psgR 0x0e
  | .psgrR0f => Event.psgR 0x0f
  | .psgrUnk reg => Event.psgR reg
  | .psgrVmin => Event.psgR 0xfe
  | .psgrVmaj => Event.psgR 0xff
  | .wtwWave0 i v => Event.wtW (waveReg 0 i) v
  | .wtwWave1 i v => Event.wtW (waveReg 1 i) v
  | .wtwWave2 i v => Event.wtW (waveReg 2 i) v
  | .wtwWave3 i v => Event.wtW (waveReg 3 i) v
  | .wtwWave4 i v => Event.wtW (waveReg 4 i) v
  | .wtwPerl0 v => Event.wtW 0xa0 v
  | .wtwPerl1 v => Event.wtW 0xa2 v
  | .wtwPerl2 v => Event.wtW 0xa4 v
  | .wtwPerl3 v => Event.wtW 0xa6 v
  | .wtwPerl4 v => Event.wtW 0xa8 v
  | .wtwPerh0 v => Event.wtW 0xa1 v
  | .wtwPerh1 v => Event.wtW 0xa3 v
  | .wtwPerh2 v => Event.wtW 0xa5 v
  | .wtwPerh3 v => Event.wtW 0xa7 v
  | .wtwPerh4 v => Event.wtW 0xa9 v
  | .wtwVol0 v => Event.wtW 0xaa v
  | .wtwVol1 v => Event.wtW 0xab v
  | .wtwVol2 v => Event.wtW 0xac v
  | .wtwVol3 v => Event.wtW 0xad v
  | .wtwVol4 v => Event.wtW 0xae v
  | .wtwMute v => Event.wtW 0xaf v
  | .wtwHigh reg v => Event.wtW reg v
  | .wtrWave0 i => Event.wtR (waveReg 0 i)
  | .wtrWave1 i => Event.wtR (waveReg 1 i)
  | .wtrWave2 i => Event.wtR (waveReg 2 i)
  | .wtrWave3 i => Event.wtR (waveReg 3 i)
  | .wtrWave4 i => Event.wtR (waveReg 4 i)
  | .wtrPerl0 => Event.wtR 0xa0
  | .wtrPerl1 => Event.wtR 0xa2
  | .wtrPerl2 => Event.wtR 0xa4
  | .wtrPerl3 => Event.wtR 0xa6
  | .wtrPerl4 => Event.wtR 0xa8
  | .wtrPerh0 => Event.wtR 0xa1
  | .wtrPerh1 => Event.wtR 0xa3
  | .wtrPerh2 => Event.wtR 0xa5
  | .wtrPerh3 => Event.wtR 0xa7
  | .wtrPerh4 => Event.wtR 0xa9
  | .wtrVol0 => Event.wtR 0xaa
  | .wtrVol1 => Event.wtR 0xab
  | .wtrVol2 => Event.wtR 0xac
  | .wtrVol3 => Event.wtR 0xad
  | .wtrVol4 => Event.wtR 0xae
  | .wtrMute => Event.wtR 0xaf
  | .wtrHigh reg => Event.wtR reg
  | .tick => Event.tick
  | .reset => Event.reset
  | .rsvd payload => (3 : BitVec 2) ++ payload

namespace Pseudo

/-- The low byte of a period, `p & 0xff` (R73). -/
def lowByte (p : Period) : Byte := p.extractLsb' 0 8

/-- The high nibble of a period as a byte, `p >> 8` (R73). -/
def highByte (p : Period) : Byte := (p.extractLsb' 8 4).setWidth 8

/-- `PSG.TONE c, p` (R73): "two consecutive register writes, low then high". -/
def psgTone (c : Fin 3) (p : Period) : List Instr :=
  [.psgwTpl c (lowByte p), .psgwTph c (highByte p)]

/-- `WT.TONE ch, p` (R73). -/
def wtTone (ch : Fin 5) (p : Period) : List Instr :=
  [.wtwPerl ch (lowByte p), .wtwPerh ch (highByte p)]

/-- `WT.LOAD ch, b0, .., b31` (R73): 32 writes, in the order of the table. -/
def wtLoad (ch : Fin 5) (b : Vector Byte 32) : List Instr :=
  b.toList.mapIdx fun i v => .wtwWave ch (BitVec.ofNat 5 i) v

/-- `TICK n` (R73). -/
def ticks (n : Nat) : List Instr := List.replicate n .tick

end Pseudo

end Sys2Proof
end

