-- ==== Sys2Proof/Config.lean ====
section
/-! DEFINITION. The configuration record of 00_scope.md R4, its well-formedness (R5), and the constants
about which the spec says nothing. A configuration is an ARGUMENT of the model, fixed before reset (R4): the
host's form of `exec` has no place for an argument beside the state, so State carries it in a field that no
operation writes (assumption 1). -/

namespace Sys2Proof

namespace Config

/-- `PSG_MIX_SET_MEANS` (R4, R17; decision D9): what a set bit of the mixer register means. -/
inductive MixSetMeans where
  | enable
  | disable
deriving DecidableEq, Repr

/-- `PSG_COMBINE` (R4, R115; decision D10): how tone and noise gate a channel. -/
inductive Combine where
  | gateAnd
  | replace
  | chipOr
deriving DecidableEq, Repr

/-- `LFSR_FORCE` (R4, R113; decision D12, conflict C3): when bit 16 of the shift register is forced to 1. -/
inductive LfsrForce where
  | ifZero
  | always
deriving DecidableEq, Repr

/-- The two halves of a 12-bit period: its low byte and its high nibble (R63, R64). -/
inductive PeriodHalf where
  | low
  | high
deriving DecidableEq, Repr

/-- `WT_PERIOD_SELECT` (R4, R131; decision D19, entry U3). Under `upstreamLiteral` both addresses of a pair
reach the same half, and WHICH half is any value fixed per configuration: it is this constructor's argument. -/
inductive WtPeriodSelect where
  | evenLowOddHigh
  | upstreamLiteral (half : PeriodHalf)
deriving DecidableEq, Repr

/-- `BLEND` (R4, R162; decision D24): which engines reach the output word. -/
inductive Blend where
  | psgOnly
  | wtOnly
  | both
deriving DecidableEq, Repr

end Config

/-- The parameters of R4. Those the source or the spec fixes (three and five channels, 32-byte tables, 32-bit
accumulators, a 16-bit output word) are types in Word.lean, not fields. The default values are those of
`CFG_REF` (95_test_vectors.md section 0, decision D34): they are NOT claimed to be the device's, they only show
that a well-formed configuration exists, and no claim rests on them (assumption 2). -/
structure Params where
  /-- `SAMPLE_RATE`, ticks per second (decision D4). -/
  sampleRate : Nat := 46875
  /-- `STEP_NOMINAL`, the per-tick step while `clk` is 0 (decision D5). -/
  stepNominal : Nat := 3579545
  /-- `STEP_ALT`, the per-tick step while `clk` is 1 (decision D5). -/
  stepAlt : Nat := 4000000
  /-- `VT[0..31]`, the volume table, every entry in 0..255 by its type (decision D14). -/
  volumeTable : Vector Byte 32 := Vector.ofFn fun i => BitVec.ofNat 8 (i.val * i.val / 4)
  /-- `PSG_MIX_SET_MEANS` (decision D9). -/
  mixSetMeans : Config.MixSetMeans := .enable
  /-- `PSG_COMBINE` (decision D10). -/
  combine : Config.Combine := .gateAnd
  /-- `NOISE_LIMIT_SCALE` (decision D11). -/
  noiseLimitScale : Nat := 16
  /-- `POLY_TAP`, 17 bits by its type (decision D12). -/
  polyTap : Seed := 0x10000
  /-- `LFSR_FORCE` (decision D12). -/
  lfsrForce : Config.LfsrForce := .ifZero
  /-- `SEED_INIT`, 17 bits by its type (decision D13). -/
  seedInit : Seed := 0x10000
  /-- `PSG_IO_REGS_ACCEPTED` (decision D15, conflict C1). -/
  psgIoRegsAccepted : Bool := false
  /-- `WT_PERIOD_SELECT` (decision D19). -/
  wtPeriodSelect : Config.WtPeriodSelect := .evenLowOddHigh
  /-- `WT_LIMIT_SCALE` (decision D20). -/
  wtLimitScale : Nat := 16
  /-- `WT_HIGH_ACCEPT`, the accepted addresses of 0xb0..0xff (decision D22). -/
  wtHighAccept : List Byte := []
  /-- `BLEND` (decision D24). -/
  blend : Config.Blend := .both
deriving DecidableEq, Repr

namespace Params

/-- `VT[1 + 2 * v]` for a 4-bit volume `v`, the only entries the hardware reads (R84, conflict C5). -/
def volumeEntry (p : Params) (v : BitVec 4) : Byte :=
  p.volumeTable[1 + 2 * v.toNat]'(by have := v.isLt; omega)

/-- R5 (a): `0 < STEP_NOMINAL < STEP_ALT`. -/
def stepsOrdered (p : Params) : Bool :=
  decide (0 < p.stepNominal) && decide (p.stepNominal < p.stepAlt)

/-- R4's types: `SAMPLE_RATE` and the two limit scales are positive integers. -/
def scalesPositive (p : Params) : Bool :=
  decide (0 < p.sampleRate) && decide (0 < p.noiseLimitScale) && decide (0 < p.wtLimitScale)

/-- R5 (b): no limit exceeds 32 bits, and `count + step` does not wrap while `count < limit`. -/
def limitsFit (p : Params) : Bool :=
  decide (4095 * 16 * p.sampleRate + p.stepAlt < 2 ^ 32) &&
  decide (31 * p.noiseLimitScale * p.sampleRate + p.stepAlt < 2 ^ 32) &&
  decide (4095 * p.wtLimitScale * p.sampleRate + p.stepAlt < 2 ^ 32)

/-- R5 (c): `VT[1 + 2v] <= VT[1 + 2(v+1)]` for `v` in 0..14. -/
def tableMonotone (p : Params) : Bool :=
  decide (∀ v : Fin 15,
    (p.volumeEntry (BitVec.ofNat 4 v.val)).toNat ≤ (p.volumeEntry (BitVec.ofNat 4 (v.val + 1))).toNat)

/-- R5 (d): `0 < SEED_INIT` (the upper bounds of R5 (d) are types). -/
def seedNonZero (p : Params) : Bool :=
  decide (p.seedInit ≠ 0)

/-- R4's type of `WT_HIGH_ACCEPT`: a subset of the register addresses 0xb0..0xff. -/
def highAcceptInRange (p : Params) : Bool :=
  p.wtHighAccept.all fun r => decide (0xb0 ≤ r.toNat)

/-- R5: the configurations the model is taken relative to; it refuses any other. -/
def wellFormed (p : Params) : Bool :=
  p.stepsOrdered && p.scalesPositive && p.limitsFit && p.tableMonotone && p.seedNonZero &&
    p.highAcceptInRange

end Params

/-- A WELL-FORMED configuration: the parameters together with the proof that R5 holds, so that no state carries
an ill-formed one. That is how the model "refuses any other configuration" (R5, entry U13). -/
structure Configuration extends Params where
  /-- R5 holds of the parameters. -/
  ok : toParams.wellFormed = true := by decide
deriving DecidableEq, Repr, Inhabited

/-- What a register master's parameters are admitted as: a configuration, or a refusal where R5 fails (U13). -/
def Configuration.accept (p : Params) : Option Configuration :=
  if h : p.wellFormed = true then some { toParams := p, ok := h } else none

namespace Config

/-- The configuration of the device that `State.reset` describes: well formed, and otherwise ANY (R4, decisions
D4, D5, D9 to D15, D19, D20, D22, D24). It has no body, so no claim can rest on one of its values. -/
opaque implementation : Configuration

/-- `draw(u8)`: the `n`-th unspecified byte that a read returns (R105, R145, entry U16). It has no body: a claim
holds for every sequence of bytes. -/
opaque drawByte : Nat → Byte

end Config

end Sys2Proof
end

