-- ==== Sys2Proof/Machine/State.lean ====
section
/-! DEFINITION. The state of the hardware: the elements of 10_state.md R11 to R30 under the spec's own names,
held as one structure per engine and one global clock selector (R10), beside the four fields that are the
MODEL's own (`cfg`, `events`, `result`, `draws`); the reset state (R200); the reasons a step can stop. -/

namespace Sys2Proof.Machine

/-- The reasons the machine could stop with a fault: NONE. "The hardware therefore has no fault state, no stuck
state and no halt" (R182); `UnknownRegister` is a RESULT of an operation that completes (R180), see `OpResult`.
No constructor, so nobody raises one: safe, the type itself says that no run ends in a fault. -/
inductive Fault
deriving DecidableEq, Repr

/-- The reasons the model gives an operation no meaning. -/
inductive Refusal where
  /-- Raised by an arm of `exec` whose operation has no meaning yet; no arm raises it now. Safe: the model stops
  where the hardware would go on. -/
  | notModelled (mnemonic : String)
  /-- Raised by `step` on an event word of `kind = 3`, and by the meaning of `RSVD`: "no operation of the
  hardware; the decoder refuses the word and a model gives the event stream containing it no meaning" (R62,
  entry U12). Safe: nothing is claimed of such a stream. -/
  | reservedEventKind
deriving DecidableEq, Repr

/-- The virtual clock selector's two legal values (R22): `nominal` is `clk = 0`, `alternate` is `clk = 1`. -/
inductive Clock where
  | nominal
  | alternate
deriving DecidableEq, Repr

/-- What the last operation handed to the agent that performed it (R60, R163, R180). -/
inductive OpResult where
  /-- No result: nothing has been performed yet, or the last operation was RESET (R200). -/
  | none
  /-- Success of a register write (R40). -/
  | ok
  /-- The byte a register read returned (R40). -/
  | byte (b : Byte)
  /-- The failure `UnknownRegister(cs, reg)` of a register operation (R180, decision D28). -/
  | unknownRegister (cs : ChipSelect) (reg : Byte)
  /-- The output word of a TICK (R163). -/
  | sample (w : Sample)
deriving DecidableEq, Repr

/-- The PSG engine's state (10_state.md section 2). -/
structure Psg where
  /-- R11: the tone periods, 12 bits each. -/
  period : Vector Period 3
  /-- R12: the levels, 5 bits each; bit 4 is the reserved envelope-mode bit. -/
  level : Vector (BitVec 5) 3
  /-- R13: the derived limits, 32 bits each. -/
  limit : Vector Acc 3
  /-- R14: the phase accumulators, 32 bits each. -/
  count : Vector Acc 3
  /-- R15: the phase flags. -/
  on : Vector Bool 3
  /-- R16: the cached volume levels, table entries in 0..255. -/
  out : Vector Byte 3
  /-- R17: the mixer control register, 6 bits. -/
  mix : BitVec 6
  /-- R18: the noise period, 5 bits. -/
  np : BitVec 5
  /-- R19: the noise generator's limit, 32 bits. -/
  nlimit : Acc
  /-- R20: the noise generator's phase accumulator, 32 bits. -/
  ncount : Acc
  /-- R21: the noise shift register, 17 bits. -/
  seed : Seed
deriving DecidableEq, Repr

/-- The WT engine's state (10_state.md section 3). -/
structure Wt where
  /-- R24: the five waveform tables of 32 bytes; a byte stands for the `i8` it is in two's complement. -/
  wave : Vector (Vector Byte 32) 5
  /-- R25: the periods, 12 bits each. -/
  period : Vector Period 5
  /-- R26: the volumes, 4 bits each. -/
  volume : Vector (BitVec 4) 5
  /-- R27: the mute mask, 5 bits. -/
  mute : BitVec 5
  /-- R28: the derived limits, 32 bits each. -/
  limit : Vector Acc 5
  /-- R29: the phase accumulators, 32 bits each. -/
  count : Vector Acc 5
  /-- R30: the indices into the waveform tables, 5 bits each. -/
  offset : Vector (BitVec 5) 5
deriving DecidableEq, Repr

/-- The whole state. `psg`, `wt` and `clk` are the hardware's (R10 to R30); the other four are the model's. -/
structure State where
  /-- MODEL's own: the configuration (R4). "It is not state": no operation writes it (assumption 1). -/
  cfg : Configuration
  /-- The PSG engine. -/
  psg : Psg
  /-- The WT engine. -/
  wt : Wt
  /-- R22: the virtual clock selector. -/
  clk : Clock
  /-- MODEL's own: the event words still to come, the next one first; the input of the machine (R36, R49). -/
  events : List EventWord
  /-- MODEL's own: the result of the last operation, an output (R38: the hardware holds no output word). -/
  result : OpResult
  /-- MODEL's own: how many unspecified bytes `draw(u8)` has given so far (R105, R145). -/
  draws : Nat
deriving DecidableEq, Repr

/-- R200: the PSG engine after RESET under configuration `c`. -/
def Psg.initial (c : Configuration) : Psg where
  period := Vector.replicate 3 0
  level := Vector.replicate 3 0
  limit := Vector.replicate 3 0
  count := Vector.replicate 3 0
  on := Vector.replicate 3 false
  out := Vector.replicate 3 (c.volumeEntry 0)
  mix := 0
  np := 0
  nlimit := 0
  ncount := 0
  seed := c.seedInit

/-- R200: the WT engine after RESET. -/
def Wt.initial : Wt where
  wave := Vector.replicate 5 (Vector.replicate 32 0)
  period := Vector.replicate 5 0
  volume := Vector.replicate 5 0
  mute := 0
  limit := Vector.replicate 5 0
  count := Vector.replicate 5 0
  offset := Vector.replicate 5 0

/-- The machine right after RESET under configuration `c` (R200), with no event to come. Only `limit = 0` is the
source's; every other value is the spec's decision D26 (assumption 5). -/
def State.resetWith (c : Configuration) : State where
  cfg := c
  psg := Psg.initial c
  wt := Wt.initial
  clk := .nominal
  events := []
  result := .none
  draws := 0

/-- The machine right after reset, under the device's own configuration, about which nothing is assumed but that
it is well formed (assumption 2). -/
def State.reset : State := State.resetWith Config.implementation

end Sys2Proof.Machine
end

