-- ==== Sys2Proof/Machine/Flags.lean ====
section
/-! DEFINITION. The one-bit values (10_state.md R34): the enable booleans of the two mixers, the noise bit and
the flip of a phase flag. The hardware has no condition codes and no status register. -/

namespace Sys2Proof.Machine

/-- Whether a bit of the PSG mixer register enables, by `PSG_MIX_SET_MEANS` (R17, decision D9). -/
def mixBitEnables (m : Config.MixSetMeans) (bit : Bool) : Bool :=
  match m with
  | .enable => bit
  | .disable => !bit

/-- `tone_en(c)`: mixer bit `c` (R17). -/
def toneEnabled (cfg : Configuration) (psg : Psg) (c : Fin 3) : Bool :=
  mixBitEnables cfg.mixSetMeans (psg.mix.getLsbD c.val)

/-- `noise_en(c)`: mixer bit `3 + c` (R17). -/
def noiseEnabled (cfg : Configuration) (psg : Psg) (c : Fin 3) : Bool :=
  mixBitEnables cfg.mixSetMeans (psg.mix.getLsbD (3 + c.val))

/-- `wt_tone_en(ch) = (wt.mute[ch] = 0)` (R27). -/
def wtToneEnabled (wt : Wt) (ch : Fin 5) : Bool :=
  !(wt.mute.getLsbD ch.val)

/-- The noise bit, `psg.seed[0]` (R21). -/
def noiseBit (psg : Psg) : Bool := psg.seed.getLsbD 0

/-- A phase flag flipped `k` times, `on ^ (k mod 2)` (R111). -/
def flipPhase (on : Bool) (k : Nat) : Bool := on ^^ decide (k % 2 = 1)

end Sys2Proof.Machine
end

