-- ==== Sys2Proof/Machine/Operands.lean ====
section
/-! DEFINITION. The operand forms: what each register keeps of a written byte (30_encoding.md R64), how the
halves of a period are written and read (R46, R63), and how a field reads back (decision D16). -/

namespace Sys2Proof.Machine

/-- The low byte of a period replaced: `(period & 0xf00) | v` (R80, R131). -/
def periodWithLow (p : Period) (v : Byte) : Period := p.extractLsb' 8 4 ++ v

/-- The high nibble of a period replaced: `(period & 0x0ff) | ((v & 0x0f) << 8)` (R81, R132). -/
def periodWithHigh (p : Period) (v : Byte) : Period := v.extractLsb' 0 4 ++ p.extractLsb' 0 8

/-- The low byte of a period as read, `period[7:0]` (R101, R143). -/
def periodLow (p : Period) : Byte := p.extractLsb' 0 8

/-- The high nibble of a period as read, `zext_8(period[11:8])` (R101, R143). -/
def periodHigh (p : Period) : Byte := (p.extractLsb' 8 4).setWidth 8

/-- One half of a period replaced (R131, R132). -/
def periodWithHalf (h : Config.PeriodHalf) (p : Period) (v : Byte) : Period :=
  match h with
  | .low => periodWithLow p v
  | .high => periodWithHigh p v

/-- One half of a period as read (R143). -/
def periodHalf (h : Config.PeriodHalf) (p : Period) : Byte :=
  match h with
  | .low => periodLow p
  | .high => periodHigh p

/-- The half that the EVEN address of a WT period pair reaches (R131, decision D19, entry U3). -/
def wtEvenHalf : Config.WtPeriodSelect → Config.PeriodHalf
  | .evenLowOddHigh => .low
  | .upstreamLiteral h => h

/-- The half that the ODD address of a WT period pair reaches (R132, decision D19, entry U3). -/
def wtOddHalf : Config.WtPeriodSelect → Config.PeriodHalf
  | .evenLowOddHigh => .high
  | .upstreamLiteral h => h

/-- The noise period keeps `value[4:0]` (R64, R82). -/
def noisePeriodField (v : Byte) : BitVec 5 := v.extractLsb' 0 5

/-- The mixer keeps `value[5:0]` (R64, R83). -/
def mixField (v : Byte) : BitVec 6 := v.extractLsb' 0 6

/-- A level keeps `value[4:0]` (R64, R84). -/
def levelField (v : Byte) : BitVec 5 := v.extractLsb' 0 5

/-- The bits of a level that select the volume, `level[3:0]` (R16, R88). -/
def levelVolume (l : BitVec 5) : BitVec 4 := l.extractLsb' 0 4

/-- A WT volume keeps `value[3:0]` (R64, R133). -/
def volumeField (v : Byte) : BitVec 4 := v.extractLsb' 0 4

/-- The mute mask keeps `value[4:0]` (R64, R134). -/
def muteField (v : Byte) : BitVec 5 := v.extractLsb' 0 5

/-- The clock selector keeps whether the value is non-zero (R64, R89). -/
def clockField (v : Byte) : Clock := if v = 0 then .nominal else .alternate

/-- A waveform byte as the signed number it is, `sext_8` (R24, R130, decision D23). -/
def signedByte (b : Byte) : Int := b.toInt

/-- A field of at most 8 bits as a read returns it, `zext_8` (decision D16). -/
def zeroExtend8 {n : Nat} (f : BitVec n) : Byte := f.setWidth 8

end Sys2Proof.Machine
end

