-- ==== Sys2Proof/Machine/Ops.lean ====
section
/-! DEFINITION. The named operations over the state: how an operation ends (the failure `UnknownRegister` among
them, 60_exceptions.md R180), how the next event is taken from the stream and put into it, the limits, and the
writes and reads of the registers of both engines. There is no return from the failure: nothing was saved, and
"after a failed operation the next operation of the event stream executes exactly as it would have had the failed
operation not been in the stream" (R185). -/

namespace Sys2Proof.Machine

/-! ### How an operation ends -/

/-- The operation is over and hands `r` to the agent that performed it. -/
def State.finish (s : State) (r : OpResult) : Host.Outcome State Fault Refusal :=
  .next { s with result := r }

/-- A register write that succeeds (R40). -/
def State.succeed (s : State) : Host.Outcome State Fault Refusal := s.finish .ok

/-- A register read that returns `b` (R40). -/
def State.answer (s : State) (b : Byte) : Host.Outcome State Fault Refusal := s.finish (.byte b)

/-- `raise UnknownRegister(cs, reg)` (R180): the failure result and no state change. -/
def State.raiseUnknownRegister (s : State) (cs : ChipSelect) (reg : Byte) :
    Host.Outcome State Fault Refusal := s.finish (.unknownRegister cs reg)

/-- A register read that returns `draw(u8)` (R105, R145): the next unspecified byte, each one used once. -/
def State.answerDraw (s : State) : Host.Outcome State Fault Refusal :=
  .next { s with result := .byte (Config.drawByte s.draws), draws := s.draws + 1 }

/-- A write that has no effect where the configuration accepts the address, and fails elsewhere (R85, R140).
The accepted flag decides the RESULT only: no state changes either way. -/
def State.succeedIf (s : State) (accepted : Bool) (cs : ChipSelect) (reg : Byte) :
    Host.Outcome State Fault Refusal :=
  s.finish (if accepted then .ok else .unknownRegister cs reg)

/-- A read of an address that holds no state: `draw(u8)` where the configuration accepts it, the failure
elsewhere (R105, R145). -/
def State.answerDrawIf (s : State) (accepted : Bool) (cs : ChipSelect) (reg : Byte) :
    Host.Outcome State Fault Refusal :=
  .next { s with
    result := if accepted then .byte (Config.drawByte s.draws) else .unknownRegister cs reg
    draws := if accepted then s.draws + 1 else s.draws }

/-! ### The event stream (R36, R49) -/

/-- The next event word and the state in which its operation is performed; nothing while no agent acts. -/
def State.nextEvent (s : State) : Option (EventWord × State) :=
  match s.events with
  | [] => none
  | w :: rest => some (w, { s with events := rest })

/-- The state with `w` as the next event word: it takes the place of the one that was next, if any. -/
def State.withNextEvent (s : State) (w : EventWord) : State :=
  { s with events := w :: s.events.tail }

/-! ### The derived caches (R13, R16, R19, R28) -/

/-- `psg.limit[c] = psg.period[c] * 16 * SAMPLE_RATE` (R13, R80). -/
def toneLimit (cfg : Configuration) (p : Period) : Acc :=
  BitVec.ofNat 32 (p.toNat * 16 * cfg.sampleRate)

/-- `psg.nlimit = psg.np * NOISE_LIMIT_SCALE * SAMPLE_RATE` (R19, R82, decision D11). -/
def noiseLimit (cfg : Configuration) (np : BitVec 5) : Acc :=
  BitVec.ofNat 32 (np.toNat * cfg.noiseLimitScale * cfg.sampleRate)

/-- `wt.limit[ch] = wt.period[ch] * WT_LIMIT_SCALE * SAMPLE_RATE` (R28, R131, decision D20). -/
def wtLimit (cfg : Configuration) (p : Period) : Acc :=
  BitVec.ofNat 32 (p.toNat * cfg.wtLimitScale * cfg.sampleRate)

/-- `psg.out[c] = VT[1 + 2 * psg.level[c][3:0]]` (R16, R84). -/
def levelOut (cfg : Configuration) (l : BitVec 5) : Byte := cfg.volumeEntry (levelVolume l)

/-! ### The PSG registers: each write is one indivisible store of the field and its cache (R45) -/

/-- Write a tone period and its limit (R80, R81). -/
def State.setTonePeriod (s : State) (c : Fin 3) (p : Period) : State :=
  { s with psg := { s.psg with
      period := s.psg.period.set c p
      limit := s.psg.limit.set c (toneLimit s.cfg p) } }

/-- Write the noise period and its limit (R82). -/
def State.setNoisePeriod (s : State) (np : BitVec 5) : State :=
  { s with psg := { s.psg with np := np, nlimit := noiseLimit s.cfg np } }

/-- Write the mixer control register (R83). -/
def State.setMix (s : State) (m : BitVec 6) : State :=
  { s with psg := { s.psg with mix := m } }

/-- Write a level and its cached output (R84). -/
def State.setLevel (s : State) (c : Fin 3) (l : BitVec 5) : State :=
  { s with psg := { s.psg with
      level := s.psg.level.set c l
      out := s.psg.out.set c (levelOut s.cfg l) } }

/-- Write the virtual clock selector: no limit is recomputed (R89). -/
def State.setClock (s : State) (k : Clock) : State := { s with clk := k }

/-- `PSGW.TPLc` (R80). -/
def State.writeTonePeriodLow (s : State) (c : Fin 3) (v : Byte) : Host.Outcome State Fault Refusal :=
  (s.setTonePeriod c (periodWithLow s.psg.period[c] v)).succeed

/-- `PSGW.TPHc` (R81). -/
def State.writeTonePeriodHigh (s : State) (c : Fin 3) (v : Byte) : Host.Outcome State Fault Refusal :=
  (s.setTonePeriod c (periodWithHigh s.psg.period[c] v)).succeed

/-- `PSGW.LVLc` (R84, R88). -/
def State.writeLevel (s : State) (c : Fin 3) (v : Byte) : Host.Outcome State Fault Refusal :=
  (s.setLevel c (levelField v)).succeed

/-- `PSGR.TPLc` (R101). -/
def State.readTonePeriodLow (s : State) (c : Fin 3) : Host.Outcome State Fault Refusal :=
  s.answer (periodLow s.psg.period[c])

/-- `PSGR.TPHc` (R101). -/
def State.readTonePeriodHigh (s : State) (c : Fin 3) : Host.Outcome State Fault Refusal :=
  s.answer (periodHigh s.psg.period[c])

/-- `PSGR.LVLc` (R102). -/
def State.readLevel (s : State) (c : Fin 3) : Host.Outcome State Fault Refusal :=
  s.answer (zeroExtend8 s.psg.level[c])

/-- The version identifiers, constants and not state (R23, decision D17): minor 1. -/
def versionMinor : Byte := 1

/-- The version identifiers, constants and not state (R23, decision D17): major 1. -/
def versionMajor : Byte := 1

/-! ### The WT registers -/

/-- `wt.wave[ch][i]` (R24). -/
def Wt.waveByte (wt : Wt) (ch : Fin 5) (i : BitVec 5) : Byte :=
  (wt.wave[ch])[i.toNat]'(by have := i.isLt; omega)

/-- Write one waveform byte (R130). -/
def State.setWave (s : State) (ch : Fin 5) (i : BitVec 5) (b : Byte) : State :=
  { s with wt := { s.wt with
      wave := s.wt.wave.set ch ((s.wt.wave[ch]).set i.toNat b (by have := i.isLt; omega)) } }

/-- Write a wavetable period and its limit (R131, R132). -/
def State.setWtPeriod (s : State) (ch : Fin 5) (p : Period) : State :=
  { s with wt := { s.wt with
      period := s.wt.period.set ch p
      limit := s.wt.limit.set ch (wtLimit s.cfg p) } }

/-- Write a wavetable volume (R133). -/
def State.setVolume (s : State) (ch : Fin 5) (v : BitVec 4) : State :=
  { s with wt := { s.wt with volume := s.wt.volume.set ch v } }

/-- Write the mute mask (R134). -/
def State.setMute (s : State) (m : BitVec 5) : State := { s with wt := { s.wt with mute := m } }

/-- `WTW.WAVEch` (R130). -/
def State.writeWave (s : State) (ch : Fin 5) (i : BitVec 5) (v : Byte) :
    Host.Outcome State Fault Refusal :=
  (s.setWave ch i v).succeed

/-- A write of one half of a wavetable period (R131, R132). -/
def State.writeWtPeriod (s : State) (ch : Fin 5) (h : Config.PeriodHalf) (v : Byte) :
    Host.Outcome State Fault Refusal :=
  (s.setWtPeriod ch (periodWithHalf h s.wt.period[ch] v)).succeed

/-- `WTW.PERLch`: the even address of the pair (R131, decision D19). -/
def State.writeWtPeriodEven (s : State) (ch : Fin 5) (v : Byte) : Host.Outcome State Fault Refusal :=
  s.writeWtPeriod ch (wtEvenHalf s.cfg.wtPeriodSelect) v

/-- `WTW.PERHch`: the odd address of the pair (R132, decision D19). -/
def State.writeWtPeriodOdd (s : State) (ch : Fin 5) (v : Byte) : Host.Outcome State Fault Refusal :=
  s.writeWtPeriod ch (wtOddHalf s.cfg.wtPeriodSelect) v

/-- `WTW.VOLch` (R133). -/
def State.writeVolume (s : State) (ch : Fin 5) (v : Byte) : Host.Outcome State Fault Refusal :=
  (s.setVolume ch (volumeField v)).succeed

/-- `WTR.WAVEch`: the byte itself, `trunc_8` of the signed entry (R142). -/
def State.readWave (s : State) (ch : Fin 5) (i : BitVec 5) : Host.Outcome State Fault Refusal :=
  s.answer (s.wt.waveByte ch i)

/-- `WTR.PERLch`: the even address of the pair (R143, decision D19). -/
def State.readWtPeriodEven (s : State) (ch : Fin 5) : Host.Outcome State Fault Refusal :=
  s.answer (periodHalf (wtEvenHalf s.cfg.wtPeriodSelect) s.wt.period[ch])

/-- `WTR.PERHch`: the odd address of the pair (R143, decision D19). -/
def State.readWtPeriodOdd (s : State) (ch : Fin 5) : Host.Outcome State Fault Refusal :=
  s.answer (periodHalf (wtOddHalf s.cfg.wtPeriodSelect) s.wt.period[ch])

/-- `WTR.VOLch` (R144). -/
def State.readVolume (s : State) (ch : Fin 5) : Host.Outcome State Fault Refusal :=
  s.answer (zeroExtend8 s.wt.volume[ch])

/-- Whether `reg` is in `WT_HIGH_ACCEPT` (R140, R145). -/
def wtHighAccepted (cfg : Configuration) (reg : Byte) : Bool := cfg.wtHighAccept.contains reg

/-! ### The counter and limit advance, shared by all nine generators (R110) -/

/-- `osc_advance(count, limit, step)`: the new count and the number of expiries (R110). -/
def oscAdvance (count limit : Acc) (step : Nat) : Acc × Nat :=
  let c1 := (count.toNat + step) % 2 ^ 32
  if limit.toNat = 0 then (BitVec.ofNat 32 c1, 0)
  else (BitVec.ofNat 32 (c1 % limit.toNat), c1 / limit.toNat)

/-- The per-tick step of every generator, selected by `clk` at the start of the TICK (R161). -/
def State.clockStep (s : State) : Nat :=
  match s.clk with
  | .nominal => s.cfg.stepNominal
  | .alternate => s.cfg.stepAlt

/-- RESET (R200): every state element at its reset value. The configuration is not changed, the stream goes on,
and unspecified bytes already drawn are not drawn again. -/
def State.initialise (s : State) : State :=
  { State.resetWith s.cfg with events := s.events, draws := s.draws }

end Sys2Proof.Machine
end

