-- ==== Sys2Proof/Machine/PsgRead.lean ====
section
/-! DEFINITION. The register reads of the PSG engine, 40_psg_registers.md section 3: one definition per operation. No read changes the hardware (R48). -/

namespace Sys2Proof.Machine

/-- `PSGR.TPL0`. R101: read the low byte of the tone period of channel 0. -/
def execPsgrTpl0 (s : State) : Host.Outcome State Fault Refusal := s.readTonePeriodLow 0

/-- `PSGR.TPL1`. R101: read the low byte of the tone period of channel 1. -/
def execPsgrTpl1 (s : State) : Host.Outcome State Fault Refusal := s.readTonePeriodLow 1

/-- `PSGR.TPL2`. R101: read the low byte of the tone period of channel 2. -/
def execPsgrTpl2 (s : State) : Host.Outcome State Fault Refusal := s.readTonePeriodLow 2

/-- `PSGR.TPH0`. R101: read the high nibble of the tone period of channel 0. -/
def execPsgrTph0 (s : State) : Host.Outcome State Fault Refusal := s.readTonePeriodHigh 0

/-- `PSGR.TPH1`. R101: read the high nibble of the tone period of channel 1. -/
def execPsgrTph1 (s : State) : Host.Outcome State Fault Refusal := s.readTonePeriodHigh 1

/-- `PSGR.TPH2`. R101: read the high nibble of the tone period of channel 2. -/
def execPsgrTph2 (s : State) : Host.Outcome State Fault Refusal := s.readTonePeriodHigh 2

/-- `PSGR.NP`. R102: read the noise period. -/
def execPsgrNp (s : State) : Host.Outcome State Fault Refusal := s.answer (zeroExtend8 s.psg.np)

/-- `PSGR.MIX`. R102: read the mixer control register. -/
def execPsgrMix (s : State) : Host.Outcome State Fault Refusal := s.answer (zeroExtend8 s.psg.mix)

/-- `PSGR.LVL0`. R102: read the level of channel 0. -/
def execPsgrLvl0 (s : State) : Host.Outcome State Fault Refusal := s.readLevel 0

/-- `PSGR.LVL1`. R102: read the level of channel 1. -/
def execPsgrLvl1 (s : State) : Host.Outcome State Fault Refusal := s.readLevel 1

/-- `PSGR.LVL2`. R102: read the level of channel 2. -/
def execPsgrLvl2 (s : State) : Host.Outcome State Fault Refusal := s.readLevel 2

/-- `PSGR.ENV0`. R105: read envelope register 0: an unspecified byte. -/
def execPsgrEnv0 (s : State) : Host.Outcome State Fault Refusal := s.answerDraw

/-- `PSGR.ENV1`. R105: read envelope register 1: an unspecified byte. -/
def execPsgrEnv1 (s : State) : Host.Outcome State Fault Refusal := s.answerDraw

/-- `PSGR.ENV2`. R105: read envelope register 2: an unspecified byte. -/
def execPsgrEnv2 (s : State) : Host.Outcome State Fault Refusal := s.answerDraw

/-- `PSGR.R0E`. R105: read address 0x0e. -/
def execPsgrR0e (s : State) : Host.Outcome State Fault Refusal :=
  s.answerDrawIf s.cfg.psgIoRegsAccepted .psg 0x0e

/-- `PSGR.R0F`. R105: read address 0x0f. -/
def execPsgrR0f (s : State) : Host.Outcome State Fault Refusal :=
  s.answerDrawIf s.cfg.psgIoRegsAccepted .psg 0x0f

/-- `PSGR.UNK`. R106: read an unknown PSG address, 0x10..0xfd. -/
def execPsgrUnk (reg : Byte) (s : State) : Host.Outcome State Fault Refusal :=
  s.raiseUnknownRegister .psg reg

/-- `PSGR.VMIN`. R103: read the minor version. -/
def execPsgrVmin (s : State) : Host.Outcome State Fault Refusal := s.answer versionMinor

/-- `PSGR.VMAJ`. R104: read the major version. -/
def execPsgrVmaj (s : State) : Host.Outcome State Fault Refusal := s.answer versionMajor

end Sys2Proof.Machine
end

