-- ==== Sys2Proof/Machine/PsgWrite.lean ====
section
/-! DEFINITION. The register writes of the PSG engine, 40_psg_registers.md section 2: one definition per operation. -/

namespace Sys2Proof.Machine

/-- `PSGW.TPL0`. R80: write the low byte of the tone period of channel 0. -/
def execPsgwTpl0 (v : Byte) (s : State) : Host.Outcome State Fault Refusal := s.writeTonePeriodLow 0 v

/-- `PSGW.TPL1`. R80: write the low byte of the tone period of channel 1. -/
def execPsgwTpl1 (v : Byte) (s : State) : Host.Outcome State Fault Refusal := s.writeTonePeriodLow 1 v

/-- `PSGW.TPL2`. R80: write the low byte of the tone period of channel 2. -/
def execPsgwTpl2 (v : Byte) (s : State) : Host.Outcome State Fault Refusal := s.writeTonePeriodLow 2 v

/-- `PSGW.TPH0`. R81: write the high nibble of the tone period of channel 0. -/
def execPsgwTph0 (v : Byte) (s : State) : Host.Outcome State Fault Refusal := s.writeTonePeriodHigh 0 v

/-- `PSGW.TPH1`. R81: write the high nibble of the tone period of channel 1. -/
def execPsgwTph1 (v : Byte) (s : State) : Host.Outcome State Fault Refusal := s.writeTonePeriodHigh 1 v

/-- `PSGW.TPH2`. R81: write the high nibble of the tone period of channel 2. -/
def execPsgwTph2 (v : Byte) (s : State) : Host.Outcome State Fault Refusal := s.writeTonePeriodHigh 2 v

/-- `PSGW.NP`. R82: write the noise period. -/
def execPsgwNp (v : Byte) (s : State) : Host.Outcome State Fault Refusal :=
  (s.setNoisePeriod (noisePeriodField v)).succeed

/-- `PSGW.MIX`. R83: write the mixer control register. -/
def execPsgwMix (v : Byte) (s : State) : Host.Outcome State Fault Refusal :=
  (s.setMix (mixField v)).succeed

/-- `PSGW.LVL0`. R84, R88: write the level of channel 0. -/
def execPsgwLvl0 (v : Byte) (s : State) : Host.Outcome State Fault Refusal := s.writeLevel 0 v

/-- `PSGW.LVL1`. R84, R88: write the level of channel 1. -/
def execPsgwLvl1 (v : Byte) (s : State) : Host.Outcome State Fault Refusal := s.writeLevel 1 v

/-- `PSGW.LVL2`. R84, R88: write the level of channel 2. -/
def execPsgwLvl2 (v : Byte) (s : State) : Host.Outcome State Fault Refusal := s.writeLevel 2 v

/-- `PSGW.ENV0`. R87: write envelope register 0: accepted, no effect. -/
def execPsgwEnv0 (_v : Byte) (s : State) : Host.Outcome State Fault Refusal := s.succeed

/-- `PSGW.ENV1`. R87: write envelope register 1: accepted, no effect. -/
def execPsgwEnv1 (_v : Byte) (s : State) : Host.Outcome State Fault Refusal := s.succeed

/-- `PSGW.ENV2`. R87: write envelope register 2: accepted, no effect. -/
def execPsgwEnv2 (_v : Byte) (s : State) : Host.Outcome State Fault Refusal := s.succeed

/-- `PSGW.R0E`. R85: write address 0x0e. -/
def execPsgwR0e (_v : Byte) (s : State) : Host.Outcome State Fault Refusal :=
  s.succeedIf s.cfg.psgIoRegsAccepted .psg 0x0e

/-- `PSGW.R0F`. R85: write address 0x0f. -/
def execPsgwR0f (_v : Byte) (s : State) : Host.Outcome State Fault Refusal :=
  s.succeedIf s.cfg.psgIoRegsAccepted .psg 0x0f

/-- `PSGW.UNK`. R90, R91: write an unknown PSG address, 0x10..0xfe. -/
def execPsgwUnk (reg : Byte) (_v : Byte) (s : State) : Host.Outcome State Fault Refusal :=
  s.raiseUnknownRegister .psg reg

/-- `PSGW.CLK`. R89: write the virtual clock selector. -/
def execPsgwClk (v : Byte) (s : State) : Host.Outcome State Fault Refusal :=
  (s.setClock (clockField v)).succeed

end Sys2Proof.Machine
end

