-- ==== Sys2Proof/Machine/System.lean ====
section
/-! DEFINITION. The meanings of RESET (70_reset_and_hazards.md R200) and of the reserved event kind (30_encoding.md R62). -/

namespace Sys2Proof.Machine

/-- `RESET`. R200: device initialisation. -/
def execReset (s : State) : Host.Outcome State Fault Refusal := s.initialise.finish .none

/-- `RSVD`. R62: the reserved event kind, no operation of the hardware: never decoded, never well formed. -/
def execRsvd (_payload : BitVec 18) (_s : State) : Host.Outcome State Fault Refusal :=
  .refused .reservedEventKind

end Sys2Proof.Machine
end

