-- ==== Sys2Proof/Machine/Tick.lean ====
section
/-! DEFINITION. The TICK operation (44_mixer_tick.md R160 to R165): the per-tick operation of the PSG engine
(41_psg_tick.md), that of the WT engine (43_wt_tick.md), the blend, and the meaning of `TICK`. -/

namespace Sys2Proof.Machine

/-! ### The noise shift register -/

/-- `fb = s[0] ^ s[3]` (R113). -/
def lfsrFeedback (s : Seed) : Bool := s.getLsbD 0 ^^ s.getLsbD 3

/-- `s1 = (s >> 1) ^ (fb = 1 ? POLY_TAP : 0)` (R113). -/
def lfsrShift (tap s : Seed) : Seed := (s >>> 1) ^^^ (if lfsrFeedback s then tap else 0)

/-- `lfsr_next(s)` (R113): the shift, and the force of bit 16 by `LFSR_FORCE`. -/
def lfsrNext (force : Config.LfsrForce) (tap s : Seed) : Seed :=
  match force with
  | .ifZero => if lfsrShift tap s = 0 then 0x10000 else lfsrShift tap s
  | .always => lfsrShift tap s ||| 0x10000

/-- `lfsr_next^k(s)` (R112). -/
def lfsrAdvance (cfg : Configuration) (k : Nat) (s : Seed) : Seed :=
  (lfsrNext cfg.lfsrForce cfg.polyTap)^[k] s

/-! ### The PSG engine -/

/-- The advance of tone oscillator `c`: its new count and its number of expiries (R111). -/
def Psg.toneAdvance (psg : Psg) (step : Nat) (c : Fin 3) : Acc × Nat :=
  oscAdvance psg.count[c] psg.limit[c] step

/-- The advance of the noise generator: its new count and its number of expiries (R112). -/
def Psg.noiseAdvance (psg : Psg) (step : Nat) : Acc × Nat :=
  oscAdvance psg.ncount psg.nlimit step

/-- The four advances of the PSG engine (R111, R112, R117): they read and write disjoint state. -/
def Psg.advance (cfg : Configuration) (psg : Psg) (step : Nat) : Psg :=
  { psg with
    count := Vector.ofFn fun c => (psg.toneAdvance step c).1
    on := Vector.ofFn fun c => flipPhase psg.on[c] (psg.toneAdvance step c).2
    ncount := (psg.noiseAdvance step).1
    seed := lfsrAdvance cfg (psg.noiseAdvance step).2 psg.seed }

/-- The tone and noise combination (R115, decision D10): `t` and `n` are the enables, `o` the phase flag, `b` the
noise bit, `a` the cached level. -/
def combineChannel (m : Config.Combine) (t n o b : Bool) (a : Byte) : Byte :=
  match m with
  | .gateAnd => if t && o && (!n || b) then a else 0
  | .replace => if t && (if n then b else o) then a else 0
  | .chipOr => if (o || !t) && (b || !n) then a else 0

/-- `ch_out(c)`, computed from the state after the advances (R115, R117, decision D8). -/
def Psg.channelOut (cfg : Configuration) (psg : Psg) (c : Fin 3) : Byte :=
  combineChannel cfg.combine (toneEnabled cfg psg c) (noiseEnabled cfg psg c) psg.on[c] (noiseBit psg)
    psg.out[c]

/-- `psg_sum`, an exact integer sum (R116, decision D33). -/
def Psg.sum (cfg : Configuration) (psg : Psg) : Nat :=
  (psg.channelOut cfg 0).toNat + (psg.channelOut cfg 1).toNat + (psg.channelOut cfg 2).toNat

/-! ### The WT engine -/

/-- The advance of wavetable channel `ch`: its new count and its number of expiries (R150). -/
def Wt.channelAdvance (wt : Wt) (step : Nat) (ch : Fin 5) : Acc × Nat :=
  oscAdvance wt.count[ch] wt.limit[ch] step

/-- The five advances of the WT engine (R150): `(wt.offset[ch] + k) mod 32` is the 5-bit sum. -/
def Wt.advance (wt : Wt) (step : Nat) : Wt :=
  { wt with
    count := Vector.ofFn fun ch => (wt.channelAdvance step ch).1
    offset := Vector.ofFn fun ch => wt.offset[ch] + BitVec.ofNat 5 (wt.channelAdvance step ch).2 }

/-- `w_out(ch)`: the signed byte at the offset times the volume, exact, or 0 where muted (R151, decision D23). -/
def Wt.channelOut (wt : Wt) (ch : Fin 5) : Int :=
  if wtToneEnabled wt ch then
    signedByte (wt.waveByte ch wt.offset[ch]) * Int.ofNat (wt.volume[ch]).toNat
  else 0

/-- `wt_sum`, an exact integer sum (R152). -/
def Wt.sum (wt : Wt) : Int :=
  wt.channelOut 0 + wt.channelOut 1 + wt.channelOut 2 + wt.channelOut 3 + wt.channelOut 4

/-! ### The mixer -/

/-- `blend(p, w)` as an exact integer (R162, decision D24); both divisions round down. -/
def blendInt (b : Config.Blend) (p : Nat) (w : Int) : Int :=
  match b with
  | .psgOnly => Int.ofNat p
  | .wtOnly => w + 0x8000
  | .both => Int.ofNat (p / 2) + (w + 0x8000) / 2

/-- `blend(p, w)`, the unsigned 16-bit output word (R162, R163). -/
def blendWord (b : Config.Blend) (p : Nat) (w : Int) : Sample := BitVec.ofInt 16 (blendInt b p w)

/-- `SILENT = blend(0, 0)` (R165). -/
def silentWord (cfg : Configuration) : Sample := blendWord cfg.blend 0 0

/-- The engines after a TICK (R160): both always advance, whatever the blend (R164). -/
def State.advanceEngines (s : State) : State :=
  { s with psg := s.psg.advance s.cfg s.clockStep, wt := s.wt.advance s.clockStep }

/-- The output word of a TICK that leaves the engines as they stand in `s` (R160, R162). -/
def State.outputWord (s : State) : Sample := blendWord s.cfg.blend (s.psg.sum s.cfg) s.wt.sum

/-- `TICK` (R160): both engines advance by the step that `clk` selects, and the blend of the two sums, taken from
the state after the advances, is the result. -/
def execTick (s : State) : Host.Outcome State Fault Refusal :=
  s.advanceEngines.finish (.sample s.advanceEngines.outputWord)

end Sys2Proof.Machine
end

