-- ==== Sys2Proof/Machine/WtRead.lean ====
section
/-! DEFINITION. The register reads of the WT engine, 42_wt_registers.md section 3: one definition per operation. No read changes the hardware (R48). -/

namespace Sys2Proof.Machine

/-- `WTR.WAVE0`. R142: read waveform byte `i` of channel 0. -/
def execWtrWave0 (i : BitVec 5) (s : State) : Host.Outcome State Fault Refusal := s.readWave 0 i

/-- `WTR.WAVE1`. R142: read waveform byte `i` of channel 1. -/
def execWtrWave1 (i : BitVec 5) (s : State) : Host.Outcome State Fault Refusal := s.readWave 1 i

/-- `WTR.WAVE2`. R142: read waveform byte `i` of channel 2. -/
def execWtrWave2 (i : BitVec 5) (s : State) : Host.Outcome State Fault Refusal := s.readWave 2 i

/-- `WTR.WAVE3`. R142: read waveform byte `i` of channel 3. -/
def execWtrWave3 (i : BitVec 5) (s : State) : Host.Outcome State Fault Refusal := s.readWave 3 i

/-- `WTR.WAVE4`. R142: read waveform byte `i` of channel 4. -/
def execWtrWave4 (i : BitVec 5) (s : State) : Host.Outcome State Fault Refusal := s.readWave 4 i

/-- `WTR.PERL0`. R143: read the even period address of channel 0. -/
def execWtrPerl0 (s : State) : Host.Outcome State Fault Refusal := s.readWtPeriodEven 0

/-- `WTR.PERL1`. R143: read the even period address of channel 1. -/
def execWtrPerl1 (s : State) : Host.Outcome State Fault Refusal := s.readWtPeriodEven 1

/-- `WTR.PERL2`. R143: read the even period address of channel 2. -/
def execWtrPerl2 (s : State) : Host.Outcome State Fault Refusal := s.readWtPeriodEven 2

/-- `WTR.PERL3`. R143: read the even period address of channel 3. -/
def execWtrPerl3 (s : State) : Host.Outcome State Fault Refusal := s.readWtPeriodEven 3

/-- `WTR.PERL4`. R143: read the even period address of channel 4. -/
def execWtrPerl4 (s : State) : Host.Outcome State Fault Refusal := s.readWtPeriodEven 4

/-- `WTR.PERH0`. R143: read the odd period address of channel 0. -/
def execWtrPerh0 (s : State) : Host.Outcome State Fault Refusal := s.readWtPeriodOdd 0

/-- `WTR.PERH1`. R143: read the odd period address of channel 1. -/
def execWtrPerh1 (s : State) : Host.Outcome State Fault Refusal := s.readWtPeriodOdd 1

/-- `WTR.PERH2`. R143: read the odd period address of channel 2. -/
def execWtrPerh2 (s : State) : Host.Outcome State Fault Refusal := s.readWtPeriodOdd 2

/-- `WTR.PERH3`. R143: read the odd period address of channel 3. -/
def execWtrPerh3 (s : State) : Host.Outcome State Fault Refusal := s.readWtPeriodOdd 3

/-- `WTR.PERH4`. R143: read the odd period address of channel 4. -/
def execWtrPerh4 (s : State) : Host.Outcome State Fault Refusal := s.readWtPeriodOdd 4

/-- `WTR.VOL0`. R144: read the volume of channel 0. -/
def execWtrVol0 (s : State) : Host.Outcome State Fault Refusal := s.readVolume 0

/-- `WTR.VOL1`. R144: read the volume of channel 1. -/
def execWtrVol1 (s : State) : Host.Outcome State Fault Refusal := s.readVolume 1

/-- `WTR.VOL2`. R144: read the volume of channel 2. -/
def execWtrVol2 (s : State) : Host.Outcome State Fault Refusal := s.readVolume 2

/-- `WTR.VOL3`. R144: read the volume of channel 3. -/
def execWtrVol3 (s : State) : Host.Outcome State Fault Refusal := s.readVolume 3

/-- `WTR.VOL4`. R144: read the volume of channel 4. -/
def execWtrVol4 (s : State) : Host.Outcome State Fault Refusal := s.readVolume 4

/-- `WTR.MUTE`. R144: read the channel mute mask. -/
def execWtrMute (s : State) : Host.Outcome State Fault Refusal := s.answer (zeroExtend8 s.wt.mute)

/-- `WTR.HIGH`. R145: read an address in 0xb0..0xff. -/
def execWtrHigh (reg : Byte) (s : State) : Host.Outcome State Fault Refusal :=
  s.answerDrawIf (wtHighAccepted s.cfg reg) .wt reg

end Sys2Proof.Machine
end

