-- ==== Sys2Proof/Machine/WtWrite.lean ====
section
/-! DEFINITION. The register writes of the WT engine, 42_wt_registers.md section 2: one definition per operation. -/

namespace Sys2Proof.Machine

/-- `WTW.WAVE0`. R130: write waveform byte `i` of channel 0. -/
def execWtwWave0 (i : BitVec 5) (v : Byte) (s : State) : Host.Outcome State Fault Refusal :=
  s.writeWave 0 i v

/-- `WTW.WAVE1`. R130: write waveform byte `i` of channel 1. -/
def execWtwWave1 (i : BitVec 5) (v : Byte) (s : State) : Host.Outcome State Fault Refusal :=
  s.writeWave 1 i v

/-- `WTW.WAVE2`. R130: write waveform byte `i` of channel 2. -/
def execWtwWave2 (i : BitVec 5) (v : Byte) (s : State) : Host.Outcome State Fault Refusal :=
  s.writeWave 2 i v

/-- `WTW.WAVE3`. R130: write waveform byte `i` of channel 3. -/
def execWtwWave3 (i : BitVec 5) (v : Byte) (s : State) : Host.Outcome State Fault Refusal :=
  s.writeWave 3 i v

/-- `WTW.WAVE4`. R130: write waveform byte `i` of channel 4. -/
def execWtwWave4 (i : BitVec 5) (v : Byte) (s : State) : Host.Outcome State Fault Refusal :=
  s.writeWave 4 i v

/-- `WTW.PERL0`. R131: write the even period address of channel 0. -/
def execWtwPerl0 (v : Byte) (s : State) : Host.Outcome State Fault Refusal := s.writeWtPeriodEven 0 v

/-- `WTW.PERL1`. R131: write the even period address of channel 1. -/
def execWtwPerl1 (v : Byte) (s : State) : Host.Outcome State Fault Refusal := s.writeWtPeriodEven 1 v

/-- `WTW.PERL2`. R131: write the even period address of channel 2. -/
def execWtwPerl2 (v : Byte) (s : State) : Host.Outcome State Fault Refusal := s.writeWtPeriodEven 2 v

/-- `WTW.PERL3`. R131: write the even period address of channel 3. -/
def execWtwPerl3 (v : Byte) (s : State) : Host.Outcome State Fault Refusal := s.writeWtPeriodEven 3 v

/-- `WTW.PERL4`. R131: write the even period address of channel 4. -/
def execWtwPerl4 (v : Byte) (s : State) : Host.Outcome State Fault Refusal := s.writeWtPeriodEven 4 v

/-- `WTW.PERH0`. R132: write the odd period address of channel 0. -/
def execWtwPerh0 (v : Byte) (s : State) : Host.Outcome State Fault Refusal := s.writeWtPeriodOdd 0 v

/-- `WTW.PERH1`. R132: write the odd period address of channel 1. -/
def execWtwPerh1 (v : Byte) (s : State) : Host.Outcome State Fault Refusal := s.writeWtPeriodOdd 1 v

/-- `WTW.PERH2`. R132: write the odd period address of channel 2. -/
def execWtwPerh2 (v : Byte) (s : State) : Host.Outcome State Fault Refusal := s.writeWtPeriodOdd 2 v

/-- `WTW.PERH3`. R132: write the odd period address of channel 3. -/
def execWtwPerh3 (v : Byte) (s : State) : Host.Outcome State Fault Refusal := s.writeWtPeriodOdd 3 v

/-- `WTW.PERH4`. R132: write the odd period address of channel 4. -/
def execWtwPerh4 (v : Byte) (s : State) : Host.Outcome State Fault Refusal := s.writeWtPeriodOdd 4 v

/-- `WTW.VOL0`. R133: write the volume of channel 0. -/
def execWtwVol0 (v : Byte) (s : State) : Host.Outcome State Fault Refusal := s.writeVolume 0 v

/-- `WTW.VOL1`. R133: write the volume of channel 1. -/
def execWtwVol1 (v : Byte) (s : State) : Host.Outcome State Fault Refusal := s.writeVolume 1 v

/-- `WTW.VOL2`. R133: write the volume of channel 2. -/
def execWtwVol2 (v : Byte) (s : State) : Host.Outcome State Fault Refusal := s.writeVolume 2 v

/-- `WTW.VOL3`. R133: write the volume of channel 3. -/
def execWtwVol3 (v : Byte) (s : State) : Host.Outcome State Fault Refusal := s.writeVolume 3 v

/-- `WTW.VOL4`. R133: write the volume of channel 4. -/
def execWtwVol4 (v : Byte) (s : State) : Host.Outcome State Fault Refusal := s.writeVolume 4 v

/-- `WTW.MUTE`. R134: write the channel mute mask. -/
def execWtwMute (v : Byte) (s : State) : Host.Outcome State Fault Refusal :=
  (s.setMute (muteField v)).succeed

/-- `WTW.HIGH`. R140: write an address in 0xb0..0xff. -/
def execWtwHigh (reg : Byte) (_v : Byte) (s : State) : Host.Outcome State Fault Refusal :=
  s.succeedIf (wtHighAccepted s.cfg reg) .wt reg

end Sys2Proof.Machine
end

