-- ==== Sys2Proof/Machine/Dispatch.lean ====
section
/-! DEFINITION. The one dispatch from an operation to its meaning: one arm per constructor of Instr. -/

namespace Sys2Proof.Machine

def exec (i : Instr) (s : State) : Host.Outcome State Fault Refusal :=
  match i with
  | .psgwTpl0 v => Sys2Proof.Machine.execPsgwTpl0 v s
  | .psgwTpl1 v => Sys2Proof.Machine.execPsgwTpl1 v s
  | .psgwTpl2 v => Sys2Proof.Machine.execPsgwTpl2 v s
  | .psgwTph0 v => Sys2Proof.Machine.execPsgwTph0 v s
  | .psgwTph1 v => Sys2Proof.Machine.execPsgwTph1 v s
  | .psgwTph2 v => Sys2Proof.Machine.execPsgwTph2 v s
  | .psgwNp v => Sys2Proof.Machine.execPsgwNp v s
  | .psgwMix v => Sys2Proof.Machine.execPsgwMix v s
  | .psgwLvl0 v => Sys2Proof.Machine.execPsgwLvl0 v s
  | .psgwLvl1 v => Sys2Proof.Machine.execPsgwLvl1 v s
  | .psgwLvl2 v => Sys2Proof.Machine.execPsgwLvl2 v s
  | .psgwEnv0 v => Sys2Proof.Machine.execPsgwEnv0 v s
  | .psgwEnv1 v => Sys2Proof.Machine.execPsgwEnv1 v s
  | .psgwEnv2 v => Sys2Proof.Machine.execPsgwEnv2 v s
  | .psgwR0e v => Sys2Proof.Machine.execPsgwR0e v s
  | .psgwR0f v => Sys2Proof.Machine.execPsgwR0f v s
  | .psgwUnk reg v => Sys2Proof.Machine.execPsgwUnk reg v s
  | .psgwClk v => Sys2Proof.Machine.execPsgwClk v s
  | .psgrTpl0 => Sys2Proof.Machine.execPsgrTpl0 s
  | .psgrTpl1 => Sys2Proof.Machine.execPsgrTpl1 s
  | .psgrTpl2 => Sys2Proof.Machine.execPsgrTpl2 s
  | .psgrTph0 => Sys2Proof.Machine.execPsgrTph0 s
  | .psgrTph1 => Sys2Proof.Machine.execPsgrTph1 s
  | .psgrTph2 => Sys2Proof.Machine.execPsgrTph2 s
  | .psgrNp => Sys2Proof.Machine.execPsgrNp s
  | .psgrMix => Sys2Proof.Machine.execPsgrMix s
  | .psgrLvl0 => Sys2Proof.Machine.execPsgrLvl0 s
  | .psgrLvl1 => Sys2Proof.Machine.execPsgrLvl1 s
  | .psgrLvl2 => Sys2Proof.Machine.execPsgrLvl2 s
  | .psgrEnv0 => Sys2Proof.Machine.execPsgrEnv0 s
  | .psgrEnv1 => Sys2Proof.Machine.execPsgrEnv1 s
  | .psgrEnv2 => Sys2Proof.Machine.execPsgrEnv2 s
  | .psgrR0e => Sys2Proof.Machine.execPsgrR0e s
  | .psgrR0f => Sys2Proof.Machine.execPsgrR0f s
  | .psgrUnk reg => Sys2Proof.Machine.execPsgrUnk reg s
  | .psgrVmin => Sys2Proof.Machine.execPsgrVmin s
  | .psgrVmaj => Sys2Proof.Machine.execPsgrVmaj s
  | .wtwWave0 j v => Sys2Proof.Machine.execWtwWave0 j v s
  | .wtwWave1 j v => Sys2Proof.Machine.execWtwWave1 j v s
  | .wtwWave2 j v => Sys2Proof.Machine.execWtwWave2 j v s
  | .wtwWave3 j v => Sys2Proof.Machine.execWtwWave3 j v s
  | .wtwWave4 j v => Sys2Proof.Machine.execWtwWave4 j v s
  | .wtwPerl0 v => Sys2Proof.Machine.execWtwPerl0 v s
  | .wtwPerl1 v => Sys2Proof.Machine.execWtwPerl1 v s
  | .wtwPerl2 v => Sys2Proof.Machine.execWtwPerl2 v s
  | .wtwPerl3 v => Sys2Proof.Machine.execWtwPerl3 v s
  | .wtwPerl4 v => Sys2Proof.Machine.execWtwPerl4 v s
  | .wtwPerh0 v => Sys2Proof.Machine.execWtwPerh0 v s
  | .wtwPerh1 v => Sys2Proof.Machine.execWtwPerh1 v s
  | .wtwPerh2 v => Sys2Proof.Machine.execWtwPerh2 v s
  | .wtwPerh3 v => Sys2Proof.Machine.execWtwPerh3 v s
  | .wtwPerh4 v => Sys2Proof.Machine.execWtwPerh4 v s
  | .wtwVol0 v => Sys2Proof.Machine.execWtwVol0 v s
  | .wtwVol1 v => Sys2Proof.Machine.execWtwVol1 v s
  | .wtwVol2 v => Sys2Proof.Machine.execWtwVol2 v s
  | .wtwVol3 v => Sys2Proof.Machine.execWtwVol3 v s
  | .wtwVol4 v => Sys2Proof.Machine.execWtwVol4 v s
  | .wtwMute v => Sys2Proof.Machine.execWtwMute v s
  | .wtwHigh reg v => Sys2Proof.Machine.execWtwHigh reg v s
  | .wtrWave0 j => Sys2Proof.Machine.execWtrWave0 j s
  | .wtrWave1 j => Sys2Proof.Machine.execWtrWave1 j s
  | .wtrWave2 j => Sys2Proof.Machine.execWtrWave2 j s
  | .wtrWave3 j => Sys2Proof.Machine.execWtrWave3 j s
  | .wtrWave4 j => Sys2Proof.Machine.execWtrWave4 j s
  | .wtrPerl0 => Sys2Proof.Machine.execWtrPerl0 s
  | .wtrPerl1 => Sys2Proof.Machine.execWtrPerl1 s
  | .wtrPerl2 => Sys2Proof.Machine.execWtrPerl2 s
  | .wtrPerl3 => Sys2Proof.Machine.execWtrPerl3 s
  | .wtrPerl4 => Sys2Proof.Machine.execWtrPerl4 s
  | .wtrPerh0 => Sys2Proof.Machine.execWtrPerh0 s
  | .wtrPerh1 => Sys2Proof.Machine.execWtrPerh1 s
  | .wtrPerh2 => Sys2Proof.Machine.execWtrPerh2 s
  | .wtrPerh3 => Sys2Proof.Machine.execWtrPerh3 s
  | .wtrPerh4 => Sys2Proof.Machine.execWtrPerh4 s
  | .wtrVol0 => Sys2Proof.Machine.execWtrVol0 s
  | .wtrVol1 => Sys2Proof.Machine.execWtrVol1 s
  | .wtrVol2 => Sys2Proof.Machine.execWtrVol2 s
  | .wtrVol3 => Sys2Proof.Machine.execWtrVol3 s
  | .wtrVol4 => Sys2Proof.Machine.execWtrVol4 s
  | .wtrMute => Sys2Proof.Machine.execWtrMute s
  | .wtrHigh reg => Sys2Proof.Machine.execWtrHigh reg s
  | .tick => Sys2Proof.Machine.execTick s
  | .reset => Sys2Proof.Machine.execReset s
  | .rsvd payload => Sys2Proof.Machine.execRsvd payload s

end Sys2Proof.Machine
end

