-- ==== Sys2Proof/Machine/Step.lean ====
section
/-! DEFINITION. One step: the next operation of the event stream, if there is one, is performed (R36, R49). -/

namespace Sys2Proof.Machine

/-- One step. "The hardware never acts on its own" (R6): with no event to come nothing happens. Otherwise the next
event word leaves the stream and its operation is performed; a word that is no operation is refused by name
(R62). -/
def step (s : State) : Host.Outcome State Fault Refusal :=
  match s.nextEvent with
  | none => .next s
  | some (w, s') =>
    match decode w with
    | .ok i => exec i s'
    | .error _ => .refused .reservedEventKind

/-- `s` with the event word `w` next in its stream, where `step` takes its next operation: an external agent
requests the operation (R6). The bits above the 20 of an event word are 0 in what the host gives. -/
def State.withFetchWord (s : State) (_nbits w : Nat) : State := s.withNextEvent (BitVec.ofNat 20 w)

end Sys2Proof.Machine
end

