-- ==== Sys2Proof/OpcodeTable.lean ====
section
/-! DEFINITION. The rows of spec/opcode_table.json as the spec gives them (R65): mnemonic, `match`, `mask`, with
`E & mask = match` selecting the row. The decoder does not use it; statements hold the decoder against it. -/

namespace Sys2Proof.OpcodeTable

/-- One row of spec/opcode_table.json. -/
structure Row where
  mnemonic : String
  pattern : Nat
  mask : Nat
deriving DecidableEq, Repr

/-- `E & mask = match` (R65), on the word as a number. -/
def Row.selects (r : Row) (w : Nat) : Bool := Nat.land w r.mask == r.pattern

/-- The `PSGW` rows. -/
def psgWrites : List Row :=
  [⟨"PSGW.TPL0", 0x00000, 0xfff00⟩,
   ⟨"PSGW.TPL1", 0x00200, 0xfff00⟩,
   ⟨"PSGW.TPL2", 0x00400, 0xfff00⟩,
   ⟨"PSGW.TPH0", 0x00100, 0xfff00⟩,
   ⟨"PSGW.TPH1", 0x00300, 0xfff00⟩,
   ⟨"PSGW.TPH2", 0x00500, 0xfff00⟩,
   ⟨"PSGW.NP", 0x00600, 0xfff00⟩,
   ⟨"PSGW.MIX", 0x00700, 0xfff00⟩,
   ⟨"PSGW.LVL0", 0x00800, 0xfff00⟩,
   ⟨"PSGW.LVL1", 0x00900, 0xfff00⟩,
   ⟨"PSGW.LVL2", 0x00a00, 0xfff00⟩,
   ⟨"PSGW.ENV0", 0x00b00, 0xfff00⟩,
   ⟨"PSGW.ENV1", 0x00c00, 0xfff00⟩,
   ⟨"PSGW.ENV2", 0x00d00, 0xfff00⟩,
   ⟨"PSGW.R0E", 0x00e00, 0xfff00⟩,
   ⟨"PSGW.R0F", 0x00f00, 0xfff00⟩] ++
  [⟨"PSGW.UNK", 0x01000, 0xff000⟩,
   ⟨"PSGW.UNK", 0x02000, 0xfe000⟩,
   ⟨"PSGW.UNK", 0x04000, 0xfc000⟩,
   ⟨"PSGW.UNK", 0x08000, 0xfc000⟩,
   ⟨"PSGW.UNK", 0x0c000, 0xfe000⟩,
   ⟨"PSGW.UNK", 0x0e000, 0xff000⟩,
   ⟨"PSGW.UNK", 0x0f000, 0xff800⟩,
   ⟨"PSGW.UNK", 0x0f800, 0xffc00⟩,
   ⟨"PSGW.UNK", 0x0fc00, 0xffe00⟩,
   ⟨"PSGW.UNK", 0x0fe00, 0xfff00⟩,
   ⟨"PSGW.CLK", 0x0ff00, 0xfff00⟩]

/-- The `PSGR` rows. -/
def psgReads : List Row :=
  [⟨"PSGR.TPL0", 0x10000, 0xfff00⟩,
   ⟨"PSGR.TPL1", 0x10200, 0xfff00⟩,
   ⟨"PSGR.TPL2", 0x10400, 0xfff00⟩,
   ⟨"PSGR.TPH0", 0x10100, 0xfff00⟩,
   ⟨"PSGR.TPH1", 0x10300, 0xfff00⟩,
   ⟨"PSGR.TPH2", 0x10500, 0xfff00⟩,
   ⟨"PSGR.NP", 0x10600, 0xfff00⟩,
   ⟨"PSGR.MIX", 0x10700, 0xfff00⟩,
   ⟨"PSGR.LVL0", 0x10800, 0xfff00⟩,
   ⟨"PSGR.LVL1", 0x10900, 0xfff00⟩,
   ⟨"PSGR.LVL2", 0x10a00, 0xfff00⟩,
   ⟨"PSGR.ENV0", 0x10b00, 0xfff00⟩,
   ⟨"PSGR.ENV1", 0x10c00, 0xfff00⟩,
   ⟨"PSGR.ENV2", 0x10d00, 0xfff00⟩,
   ⟨"PSGR.R0E", 0x10e00, 0xfff00⟩,
   ⟨"PSGR.R0F", 0x10f00, 0xfff00⟩] ++
  [⟨"PSGR.UNK", 0x11000, 0xff000⟩,
   ⟨"PSGR.UNK", 0x12000, 0xfe000⟩,
   ⟨"PSGR.UNK", 0x14000, 0xfc000⟩,
   ⟨"PSGR.UNK", 0x18000, 0xfc000⟩,
   ⟨"PSGR.UNK", 0x1c000, 0xfe000⟩,
   ⟨"PSGR.UNK", 0x1e000, 0xff000⟩,
   ⟨"PSGR.UNK", 0x1f000, 0xff800⟩,
   ⟨"PSGR.UNK", 0x1f800, 0xffc00⟩,
   ⟨"PSGR.UNK", 0x1fc00, 0xffe00⟩,
   ⟨"PSGR.VMIN", 0x1fe00, 0xfff00⟩,
   ⟨"PSGR.VMAJ", 0x1ff00, 0xfff00⟩]

/-- The `WTW` rows. -/
def wtWrites : List Row :=
  [⟨"WTW.WAVE0", 0x20000, 0xfe000⟩,
   ⟨"WTW.WAVE1", 0x22000, 0xfe000⟩,
   ⟨"WTW.WAVE2", 0x24000, 0xfe000⟩,
   ⟨"WTW.WAVE3", 0x26000, 0xfe000⟩,
   ⟨"WTW.WAVE4", 0x28000, 0xfe000⟩,
   ⟨"WTW.PERL0", 0x2a000, 0xfff00⟩,
   ⟨"WTW.PERL1", 0x2a200, 0xfff00⟩,
   ⟨"WTW.PERL2", 0x2a400, 0xfff00⟩,
   ⟨"WTW.PERL3", 0x2a600, 0xfff00⟩,
   ⟨"WTW.PERL4", 0x2a800, 0xfff00⟩,
   ⟨"WTW.PERH0", 0x2a100, 0xfff00⟩,
   ⟨"WTW.PERH1", 0x2a300, 0xfff00⟩,
   ⟨"WTW.PERH2", 0x2a500, 0xfff00⟩,
   ⟨"WTW.PERH3", 0x2a700, 0xfff00⟩,
   ⟨"WTW.PERH4", 0x2a900, 0xfff00⟩,
   ⟨"WTW.VOL0", 0x2aa00, 0xfff00⟩] ++
  [⟨"WTW.VOL1", 0x2ab00, 0xfff00⟩,
   ⟨"WTW.VOL2", 0x2ac00, 0xfff00⟩,
   ⟨"WTW.VOL3", 0x2ad00, 0xfff00⟩,
   ⟨"WTW.VOL4", 0x2ae00, 0xfff00⟩,
   ⟨"WTW.MUTE", 0x2af00, 0xfff00⟩,
   ⟨"WTW.HIGH", 0x2b000, 0xff000⟩,
   ⟨"WTW.HIGH", 0x2c000, 0xfc000⟩]

/-- The `WTR` rows. -/
def wtReads : List Row :=
  [⟨"WTR.WAVE0", 0x30000, 0xfe000⟩,
   ⟨"WTR.WAVE1", 0x32000, 0xfe000⟩,
   ⟨"WTR.WAVE2", 0x34000, 0xfe000⟩,
   ⟨"WTR.WAVE3", 0x36000, 0xfe000⟩,
   ⟨"WTR.WAVE4", 0x38000, 0xfe000⟩,
   ⟨"WTR.PERL0", 0x3a000, 0xfff00⟩,
   ⟨"WTR.PERL1", 0x3a200, 0xfff00⟩,
   ⟨"WTR.PERL2", 0x3a400, 0xfff00⟩,
   ⟨"WTR.PERL3", 0x3a600, 0xfff00⟩,
   ⟨"WTR.PERL4", 0x3a800, 0xfff00⟩,
   ⟨"WTR.PERH0", 0x3a100, 0xfff00⟩,
   ⟨"WTR.PERH1", 0x3a300, 0xfff00⟩,
   ⟨"WTR.PERH2", 0x3a500, 0xfff00⟩,
   ⟨"WTR.PERH3", 0x3a700, 0xfff00⟩,
   ⟨"WTR.PERH4", 0x3a900, 0xfff00⟩,
   ⟨"WTR.VOL0", 0x3aa00, 0xfff00⟩] ++
  [⟨"WTR.VOL1", 0x3ab00, 0xfff00⟩,
   ⟨"WTR.VOL2", 0x3ac00, 0xfff00⟩,
   ⟨"WTR.VOL3", 0x3ad00, 0xfff00⟩,
   ⟨"WTR.VOL4", 0x3ae00, 0xfff00⟩,
   ⟨"WTR.MUTE", 0x3af00, 0xfff00⟩,
   ⟨"WTR.HIGH", 0x3b000, 0xff000⟩,
   ⟨"WTR.HIGH", 0x3c000, 0xfc000⟩]

/-- The three rows that are no register operation. -/
def others : List Row :=
  [⟨"TICK", 0x40000, 0xc0000⟩,
   ⟨"RESET", 0x80000, 0xc0000⟩,
   ⟨"RSVD", 0xc0000, 0xc0000⟩]

/-- The 103 rows of the table, in its order. -/
def rows : List Row := psgWrites ++ psgReads ++ wtWrites ++ wtReads ++ others

/-- The mnemonics of the rows that a word selects. -/
def selected (w : Nat) : List String := (rows.filter fun r => r.selects w).map Row.mnemonic

end Sys2Proof.OpcodeTable
end

