-- ==== Sys2Proof/Safety.lean ====
section
/-! DEFINITION. The terms the claims use: what a run that nothing stops is, the consistency every operation keeps,
what it means that the hardware is unchanged, and the source's own algorithms, written as the spec quotes them,
against which the closed forms of the model are held. -/

namespace Sys2Proof.Machine

/-! ### Runs -/

/-- No word of the stream is of the reserved kind (R62): every word is an operation of the hardware. -/
def AllOperations (ws : List EventWord) : Prop := ∀ w ∈ ws, Event.kind w ≠ 3

/-- A safe run: `k` steps from `s` end in a state, not in a fault or a refusal (R182). -/
def RunsOn (k : Nat) (s : State) : Prop := ∃ t, Host.Core.run Sys2Proof.core k s = .next t

/-! ### What an operation leaves alone -/

/-- Every element of R11 to R30 is as before. -/
def SameHardware (s t : State) : Prop := t.psg = s.psg ∧ t.wt = s.wt ∧ t.clk = s.clk

/-- The model's own fields other than the result are as before. -/
def SameEnvironment (s t : State) : Prop := t.cfg = s.cfg ∧ t.events = s.events ∧ t.draws = s.draws

/-- The elements that no register write reaches are as before: counts, phase flags, seed, offsets (R37). -/
def SameGenerators (s t : State) : Prop :=
  t.psg.count = s.psg.count ∧ t.psg.on = s.psg.on ∧ t.psg.ncount = s.psg.ncount ∧
  t.psg.seed = s.psg.seed ∧ t.wt.count = s.wt.count ∧ t.wt.offset = s.wt.offset

/-- The register writes that recompute a limit (R80 to R82, R131, R132). -/
def IsPeriodWrite (i : Instr) : Prop :=
  (∃ (c : Fin 3) (v : Byte), i = .psgwTpl c v ∨ i = .psgwTph c v) ∨ (∃ v : Byte, i = .psgwNp v) ∨
  (∃ (ch : Fin 5) (v : Byte), i = .wtwPerl ch v ∨ i = .wtwPerh ch v)

/-! ### Consistency -/

/-- The invariants of 10_state.md: the caches are what R13, R16, R19 and R28 compute, as exact numbers, and the
seed is not zero (R21). -/
structure State.Consistent (s : State) : Prop where
  toneLimits : ∀ c : Fin 3, (s.psg.limit[c]).toNat = (s.psg.period[c]).toNat * 16 * s.cfg.sampleRate
  toneOuts : ∀ c : Fin 3,
    s.psg.out[c] = s.cfg.volumeTable[1 + 2 * ((s.psg.level[c]).toNat % 16)]'(by omega)
  noiseLimits : s.psg.nlimit.toNat = s.psg.np.toNat * s.cfg.noiseLimitScale * s.cfg.sampleRate
  wtLimits : ∀ ch : Fin 5,
    (s.wt.limit[ch]).toNat = (s.wt.period[ch]).toNat * s.cfg.wtLimitScale * s.cfg.sampleRate
  seedNonZero : s.psg.seed ≠ 0

/-! ### The source's algorithms -/

/-- The source's step 2, "While `count >= limit` and `limit > 0`: subtract `limit` from `count`", doing `act` once
per expiry (41_psg_tick.md, quoted at the file's head), for at most `fuel` rounds. -/
def sourceLoop {α : Type} (act : α → α) : Nat → Nat → Nat → α → Nat × α
  | 0, count, _, a => (count, a)
  | fuel + 1, count, limit, a =>
    if limit ≤ count ∧ 0 < limit then sourceLoop act fuel (count - limit) limit (act a) else (count, a)

/-- The truth table of R115, row by row: the enables `t`, `n`, the phase flag `o`, the noise bit `b`, the level. -/
def truthTable (m : Config.Combine) (t n o b : Bool) (a : Nat) : Nat :=
  match t, n, o, b with
  | false, false, _, _ => (match m with | .chipOr => a | _ => 0)
  | false, true, _, false => 0
  | false, true, _, true => (match m with | .chipOr => a | _ => 0)
  | true, false, false, _ => 0
  | true, false, true, _ => a
  | true, true, false, false => 0
  | true, true, false, true => (match m with | .replace => a | _ => 0)
  | true, true, true, false => 0
  | true, true, true, true => a

/-- `psg_sum` by the truth table (R115, R116), from the state after the advances. -/
def truthTableSum (s : State) : Nat :=
  ((List.finRange 3).map fun c =>
    truthTable s.cfg.combine (toneEnabled s.cfg s.psg c) (noiseEnabled s.cfg s.psg c) s.psg.on[c]
      (decide (s.psg.seed.toNat % 2 = 1)) (s.psg.out[c]).toNat).sum

/-- `wt_sum` by R151 and R152: the signed byte at the offset times the volume, over the channels not muted. -/
def unmutedSum (s : State) : Int :=
  ((List.finRange 5).map fun ch =>
    if s.wt.mute.getLsbD ch.val then 0
    else (s.wt.waveByte ch s.wt.offset[ch]).toInt * (s.wt.volume[ch]).toNat).sum

/-- The reset channel output of the table of R201. -/
def resetChannelOut (cfg : Configuration) : Nat :=
  match cfg.mixSetMeans, cfg.combine with
  | .enable, .chipOr => (cfg.volumeTable[1]).toNat
  | .enable, _ => 0
  | .disable, .replace => if cfg.seedInit.toNat % 2 = 1 then (cfg.volumeTable[1]).toNat else 0
  | .disable, _ => 0

/-! ### The failure, and reads -/

/-- The table of R181: the register operations that raise `UnknownRegister` under a configuration. -/
def RaisesUnknownRegister (cfg : Configuration) (cs rw : BitVec 1) (reg : Byte) : Prop :=
  (cs = 0 ∧ rw = 0 ∧ 0x10 ≤ reg.toNat ∧ reg.toNat ≤ 0xfd) ∨
  (cs = 0 ∧ rw = 0 ∧ reg = 0xfe) ∨
  (cs = 0 ∧ (reg = 0x0e ∨ reg = 0x0f) ∧ cfg.psgIoRegsAccepted = false) ∨
  (cs = 0 ∧ rw = 1 ∧ 0x10 ≤ reg.toNat ∧ reg.toNat ≤ 0xfd) ∨
  (cs = 1 ∧ 0xb0 ≤ reg.toNat ∧ reg ∉ cfg.wtHighAccept)

/-- The register space an operation's `cs` bit selects (R61). -/
def chipSelect (cs : BitVec 1) : ChipSelect := if cs = 0 then .psg else .wt

/-- A well-decoded word that is a register read: `kind = 0`, `rw = 1` (R61). -/
def IsRead (w : EventWord) : Prop := Event.kind w = 0 ∧ Event.rw w = 1

end Sys2Proof.Machine
end

