-- ==== Sys2Proof/Certificates/Slice0/Obligations.lean ====
section
/-! DEFINITION. The statements for the provers. "Stated" ones formalise numbered rules of the source's own words;
"derived" ones rest on sections and on decisions of the spec (92_eei_decisions.md), named in their docstrings. -/

open Sys2Proof Sys2Proof.Machine

/-! ### Encoding -/

/-- 30_encoding.md sections 1 and 3 (the packing is the spec's own decision D2, log entry 3): every operation's
canonical word decodes to that operation, whatever its operands. -/
def Obligations.EncodedOperationDecodesToItself : Prop :=
  ∀ i : Instr, i.wellFormed = true → decode (encode i) = .ok i

/-- 30_encoding.md sections 1 and 3 (decision D2, log entry 3): what a word decodes to is well formed, and its own
word is the word with the ignored fields zero, so the decoder drops nothing but the ignored fields. -/
def Obligations.DecodedWordEncodesToItsCanonicalWord : Prop :=
  ∀ (w : EventWord) (i : Instr), decode w = .ok i → i.wellFormed = true ∧ encode i = Event.canonical w

/-- 30_encoding.md section 1 (decision D2, log entry 3): decoding is total but for the reserved kind, which it
rejects by name, and a number of more than 20 bits is no event word. -/
def Obligations.DecodingFailsExactlyOnTheReservedKind : Prop :=
  (∀ w : EventWord, decode w = .error .reservedKind ↔ Event.kind w = 3) ∧
  (∀ w : EventWord, Event.kind w ≠ 3 → ∃ i, decode w = .ok i) ∧
  (∀ n : Nat, 2 ^ 20 ≤ n → decodeNat n = .error .notAnEventWord) ∧
  (∀ w : EventWord, decodeNat w.toNat = decode w)

/-- 30_encoding.md section 3 and opcode_table.json (the packing is decision D2, log entry 3): every word selects
exactly one row mnemonic of the table, and the operation it decodes to has that mnemonic. -/
def Obligations.DecodingAgreesWithTheOpcodeTable : Prop :=
  ∀ w : EventWord,
    (∀ i, decode w = .ok i → OpcodeTable.selected w.toNat = [i.mnemonic]) ∧
    (Event.kind w = 3 → OpcodeTable.selected w.toNat = ["RSVD"])

/-- 30_encoding.md sections 2 and 5 (R63's operand formulas): the channel, the half and the table index an
operation works on are the ones its register address gives by `reg >> 1`, `reg - 8`, `reg >> 5`, `reg & 0x1f`,
`(reg - 0xa0) >> 1` and `reg - 0xaa`. The half of a WT pair is named by its address here (decision D19). -/
def Obligations.AddressOperandsFollowTheFormulas : Prop :=
  (∀ (c : Fin 3) (reg v : Byte), reg.toNat < 6 → reg.toNat / 2 = c.val →
    decode (Event.psgW reg v) = .ok (if reg.toNat % 2 = 0 then .psgwTpl c v else .psgwTph c v) ∧
    decode (Event.psgR reg) = .ok (if reg.toNat % 2 = 0 then .psgrTpl c else .psgrTph c)) ∧
  (∀ (c : Fin 3) (reg v : Byte), 8 ≤ reg.toNat → reg.toNat - 8 = c.val →
    decode (Event.psgW reg v) = .ok (.psgwLvl c v) ∧ decode (Event.psgR reg) = .ok (.psgrLvl c)) ∧
  (∀ (ch : Fin 5) (i : BitVec 5) (reg v : Byte), reg.toNat / 32 = ch.val → reg.toNat % 32 = i.toNat →
    decode (Event.wtW reg v) = .ok (.wtwWave ch i v) ∧ decode (Event.wtR reg) = .ok (.wtrWave ch i)) ∧
  (∀ (ch : Fin 5) (reg v : Byte), 0xa0 ≤ reg.toNat → (reg.toNat - 0xa0) / 2 = ch.val →
    decode (Event.wtW reg v) = .ok (if reg.toNat % 2 = 0 then .wtwPerl ch v else .wtwPerh ch v) ∧
    decode (Event.wtR reg) = .ok (if reg.toNat % 2 = 0 then .wtrPerl ch else .wtrPerh ch)) ∧
  (∀ (ch : Fin 5) (reg v : Byte), 0xaa ≤ reg.toNat → reg.toNat - 0xaa = ch.val →
    decode (Event.wtW reg v) = .ok (.wtwVol ch v) ∧ decode (Event.wtR reg) = .ok (.wtrVol ch))

/-- 95_test_vectors.md section 2 (derived vectors): a few words written out by the spec decode to the operations
it names. -/
def Obligations.SampleWordsDecode : Prop :=
  decode 0x000fe = .ok (.psgwTpl0 0xfe) ∧ decode 0x003f1 = .ok (.psgwTph1 0xf1) ∧
  decode 0x0fe00 = .ok (.psgwUnk 0xfe 0) ∧ decode 0x0ff80 = .ok (.psgwClk 0x80) ∧
  decode 0x10500 = .ok .psgrTph2 ∧ decode 0x24390 = .ok (.wtwWave2 3 0x90) ∧
  decode 0x2a912 = .ok (.wtwPerh4 0x12) ∧ decode 0x3af00 = .ok .wtrMute ∧
  decode 0x40000 = .ok .tick ∧ decode 0x80000 = .ok .reset

/-! ### The step -/

/-- 20_memory.md section 3 (one total order, the next operation is the next element of the stream): where the next
event word decodes to `i`, a step is `i` performed on the state whose stream has moved past that word; with no word
to come nothing happens ("The hardware never acts on its own", 00_scope.md section 5). -/
def Obligations.StepPerformsTheNextDecodedOperation : Prop :=
  (∀ (s : State) (w : EventWord) (rest : List EventWord) (i : Instr),
    s.events = w :: rest → decode w = .ok i → step s = exec i { s with events := rest }) ∧
  (∀ s : State, s.events = [] → step s = .next s)

/-- 30_encoding.md section 1 (the kind codes are decision D2): a word of the reserved kind is given no meaning by a
step, and the reserved form itself is refused on every path. -/
def Obligations.ReservedKindIsRefused : Prop :=
  (∀ (s : State) (w : EventWord) (rest : List EventWord),
    s.events = w :: rest → Event.kind w = 3 → step s = .refused .reservedEventKind) ∧
  (∀ (payload : BitVec 18) (s : State), exec (.rsvd payload) s = .refused .reservedEventKind)

/-- 00_scope.md section 4 ("fixed before reset and never changed afterwards") and 20_memory.md section 3: a step
takes exactly the next word from the stream and leaves the configuration as it is; it draws at most one unspecified
byte (the counter of drawn bytes is the model's own, log entry 4). -/
def Obligations.StepKeepsConfigurationAndTakesOneEvent : Prop :=
  ∀ s t : State, step s = .next t →
    t.cfg = s.cfg ∧ t.events = s.events.tail ∧ s.draws ≤ t.draws ∧ t.draws ≤ s.draws + 1

/-- 60_exceptions.md section 1 ("no fault state, no stuck state and no halt: from every reachable state every
operation is enabled and returns"): from EVERY state, a stream that holds no reserved word is never stopped, and the
words it has taken are gone. -/
def Obligations.NoStreamOfOperationsIsEverStopped : Prop :=
  ∀ (k : Nat) (s : State), AllOperations s.events →
    ∃ t, Host.Core.run Sys2Proof.core k s = .next t ∧ t.events = s.events.drop k ∧ t.cfg = s.cfg

/-! ### Invariants -/

/-- 10_state.md sections 2 and 3 (invariants the spec derives; the 32-bit width is decision D6): every step keeps
the caches equal to what the registers give, as exact numbers, and the seed non-zero. -/
def Obligations.StepKeepsCachesAndSeedConsistent : Prop :=
  ∀ s t : State, s.Consistent → step s = .next t → t.Consistent

/-- 10_state.md sections 2 and 3, 70_reset_and_hazards.md section 1 (reset values: decision D26, log entry 5): the
reset state of every configuration is consistent, `State.reset` among them, and RESET makes any state so. -/
def Obligations.ResetStateIsConsistent : Prop :=
  (∀ c : Configuration, (State.resetWith c).Consistent) ∧ State.reset.Consistent ∧
  (∀ s : State, ∃ t, exec .reset s = .next t ∧ t.Consistent)

/-- 93_implementation_defined.md entry U3 (decision D19, log entry 8): with the upstream's literal selection the
half of a WT period that no address reaches stays 0 through every step, once it is 0 (as it is at reset). -/
def Obligations.UpstreamLiteralLeavesTheOtherHalfZero : Prop :=
  ∀ s t : State, step s = .next t →
    (s.cfg.wtPeriodSelect = .upstreamLiteral .low → (∀ ch : Fin 5, (s.wt.period[ch]).toNat / 256 = 0) →
      ∀ ch : Fin 5, (t.wt.period[ch]).toNat / 256 = 0) ∧
    (s.cfg.wtPeriodSelect = .upstreamLiteral .high → (∀ ch : Fin 5, (s.wt.period[ch]).toNat % 256 = 0) →
      ∀ ch : Fin 5, (t.wt.period[ch]).toNat % 256 = 0)

/-! ### Rules about the whole machine -/

/-- 10_state.md sections 2 to 4 ("Written only by TICK"): no operation but TICK and RESET changes a count, a phase
flag, the seed or an offset. -/
def Obligations.OnlyTickAndResetChangeTheGenerators : Prop :=
  ∀ (i : Instr) (s t : State), exec i s = .next t → i ≠ .tick → i ≠ .reset → SameGenerators s t

/-- 10_state.md section 4 (R31 and R32 as the spec derives them): a host register changes only by the write to its
own address, or by RESET. The WT period is named by its pair, since which half each address reaches is decision
D19. -/
def Obligations.HostRegistersChangeOnlyByTheirOwnWrite : Prop :=
  ∀ (i : Instr) (s t : State), exec i s = .next t → i ≠ .reset →
    (∀ c : Fin 3, t.psg.period[c] ≠ s.psg.period[c] → ∃ v, i = .psgwTpl c v ∨ i = .psgwTph c v) ∧
    (∀ c : Fin 3, t.psg.level[c] ≠ s.psg.level[c] → ∃ v, i = .psgwLvl c v) ∧
    (t.psg.np ≠ s.psg.np → ∃ v, i = .psgwNp v) ∧
    (t.psg.mix ≠ s.psg.mix → ∃ v, i = .psgwMix v) ∧
    (t.clk ≠ s.clk → ∃ v, i = .psgwClk v) ∧
    (∀ (ch : Fin 5) (j : BitVec 5), t.wt.waveByte ch j ≠ s.wt.waveByte ch j → ∃ v, i = .wtwWave ch j v) ∧
    (∀ ch : Fin 5, t.wt.period[ch] ≠ s.wt.period[ch] → ∃ v, i = .wtwPerl ch v ∨ i = .wtwPerh ch v) ∧
    (∀ ch : Fin 5, t.wt.volume[ch] ≠ s.wt.volume[ch] → ∃ v, i = .wtwVol ch v) ∧
    (t.wt.mute ≠ s.wt.mute → ∃ v, i = .wtwMute v)

/-- 20_memory.md section 2 (reads have no side effect: decision D16): no register read changes the hardware, and
what it returns is one byte or the failure. -/
def Obligations.ReadsChangeNoHardwareState : Prop :=
  ∀ (w : EventWord) (i : Instr) (s : State), IsRead w → decode w = .ok i →
    ∃ t, exec i s = .next t ∧ SameHardware s t ∧ t.cfg = s.cfg ∧ t.events = s.events ∧
      ((∃ b, t.result = .byte b) ∨ t.result = .unknownRegister (chipSelect (Event.cs w)) (Event.reg w))

/-- 70_reset_and_hazards.md section 3 (R211 as the spec derives it): what a read returns does not depend on whether
a TICK comes before it. -/
def Obligations.TickDoesNotChangeWhatAReadReturns : Prop :=
  ∀ (w : EventWord) (i : Instr) (s t : State), IsRead w → decode w = .ok i → exec .tick s = .next t →
    ∃ a b, exec i s = .next a ∧ exec i t = .next b ∧ a.result = b.result

/-- R181, "raised by exactly these operations and no others": a word's operation answers with the failure exactly
when the table of R181 lists its register space, direction and address, whatever the value; it then names the
register and changes nothing else. -/
def Obligations.UnknownRegisterRaisedExactlyByTheTable : Prop :=
  ∀ (w : EventWord) (i : Instr) (s t : State), decode w = .ok i → exec i s = .next t →
    ((∃ cs reg, t.result = .unknownRegister cs reg) ↔
      Event.kind w = 0 ∧ RaisesUnknownRegister s.cfg (Event.cs w) (Event.rw w) (Event.reg w)) ∧
    (Event.kind w = 0 ∧ RaisesUnknownRegister s.cfg (Event.cs w) (Event.rw w) (Event.reg w) →
      t = { s with result := .unknownRegister (chipSelect (Event.cs w)) (Event.reg w) })

/-- 60_exceptions.md section 1 (R185 as the spec derives it): an operation does not depend on the result of the one
before it, and a run through a failed operation goes on exactly as if it had not been in the stream. -/
def Obligations.FailedOperationLeavesNoTrace : Prop :=
  (∀ (i : Instr) (s : State) (r : OpResult), exec i { s with result := r } = exec i s) ∧
  (∀ (s : State) (w : EventWord) (rest : List EventWord) (i : Instr) (t : State) (cs : ChipSelect) (reg : Byte)
    (k : Nat), decode w = .ok i → exec i { s with events := rest } = .next t →
    t.result = .unknownRegister cs reg → rest ≠ [] →
    Host.Core.run Sys2Proof.core (k + 2) { s with events := w :: rest } =
      Host.Core.run Sys2Proof.core (k + 1) { s with events := rest })

/-! ### PSG register writes -/

/-- R80: the low byte of a tone period is written and its limit recomputed, `period * 16 * SAMPLE_RATE` exactly; the
next TICK goes on from the count and the phase as they were, against the new limit, be it 0 or below the count; no
other channel, and nothing else, changes. -/
def Obligations.ToneLowWriteSetsPeriodAndLimit : Prop :=
  ∀ (c : Fin 3) (v : Byte) (s : State),
    decode (Event.psgW (BitVec.ofNat 8 (2 * c.val)) v) = .ok (.psgwTpl c v) ∧
    ∃ t, exec (.psgwTpl c v) s = .next t ∧ t.result = .ok ∧
      t.psg.period[c] = (s.psg.period[c] &&& 0xf00) ||| v.setWidth 12 ∧
      (t.psg.limit[c]).toNat = (t.psg.period[c]).toNat * 16 * s.cfg.sampleRate ∧
      (∀ d : Fin 3, d ≠ c → t.psg.period[d] = s.psg.period[d] ∧ t.psg.limit[d] = s.psg.limit[d]) ∧
      (∀ u, exec .tick t = .next u →
        u.psg.count[c] = (oscAdvance s.psg.count[c] t.psg.limit[c] s.clockStep).1 ∧
        u.psg.on[c] = flipPhase s.psg.on[c] (oscAdvance s.psg.count[c] t.psg.limit[c] s.clockStep).2) ∧
      t = { s with psg := { s.psg with period := t.psg.period, limit := t.psg.limit }, result := .ok }

/-- R81: the high nibble of a tone period is written (the value masked to 4 bits) and its limit recomputed, the next
TICK going on from the count and the phase as they were; and the two writes of a pair, low then high, leave the
limit at `p * 16 * SAMPLE_RATE` for every period `p`. -/
def Obligations.ToneHighWriteSetsPeriodAndLimit : Prop :=
  ∀ (c : Fin 3) (v : Byte) (s : State),
    decode (Event.psgW (BitVec.ofNat 8 (2 * c.val + 1)) v) = .ok (.psgwTph c v) ∧
    (∃ t, exec (.psgwTph c v) s = .next t ∧ t.result = .ok ∧
      t.psg.period[c] = (s.psg.period[c] &&& 0x0ff) ||| ((v &&& 0x0f).setWidth 12 <<< 8) ∧
      (t.psg.limit[c]).toNat = (t.psg.period[c]).toNat * 16 * s.cfg.sampleRate ∧
      (∀ d : Fin 3, d ≠ c → t.psg.period[d] = s.psg.period[d] ∧ t.psg.limit[d] = s.psg.limit[d]) ∧
      (∀ u, exec .tick t = .next u →
        u.psg.count[c] = (oscAdvance s.psg.count[c] t.psg.limit[c] s.clockStep).1 ∧
        u.psg.on[c] = flipPhase s.psg.on[c] (oscAdvance s.psg.count[c] t.psg.limit[c] s.clockStep).2) ∧
      t = { s with psg := { s.psg with period := t.psg.period, limit := t.psg.limit }, result := .ok }) ∧
    (∀ p : Period, ∃ t u, Pseudo.psgTone c p = [.psgwTpl c (Pseudo.lowByte p), .psgwTph c (Pseudo.highByte p)] ∧
      exec (.psgwTpl c (Pseudo.lowByte p)) s = .next t ∧ exec (.psgwTph c (Pseudo.highByte p)) t = .next u ∧
      u.psg.period[c] = p ∧ (u.psg.limit[c]).toNat = p.toNat * 16 * s.cfg.sampleRate)

/-- 40_psg_registers.md section 2 (the factor NOISE_LIMIT_SCALE is decision D11, log entry 7): the noise period
keeps bits 4:0 and its limit is recomputed; nothing else changes. -/
def Obligations.NoisePeriodWriteSetsPeriodAndLimit : Prop :=
  ∀ (v : Byte) (s : State), decode (Event.psgW 0x06 v) = .ok (.psgwNp v) ∧
    ∃ t, exec (.psgwNp v) s = .next t ∧ t.result = .ok ∧ t.psg.np.toNat = v.toNat % 32 ∧
      t.psg.nlimit.toNat = (v.toNat % 32) * s.cfg.noiseLimitScale * s.cfg.sampleRate ∧
      t = { s with psg := { s.psg with np := t.psg.np, nlimit := t.psg.nlimit }, result := .ok }

/-- 40_psg_registers.md section 2 (bits 7:6 are not stored: decision D18; the polarity is a parameter: D9, log
entries 9 and 7): the mixer keeps bits 5:0, each channel's two enables follow it at once, nothing else changes. -/
def Obligations.MixerWriteSetsTheEnables : Prop :=
  ∀ (v : Byte) (s : State), decode (Event.psgW 0x07 v) = .ok (.psgwMix v) ∧
    ∃ t, exec (.psgwMix v) s = .next t ∧ t.result = .ok ∧ t.psg.mix.toNat = v.toNat % 64 ∧
      (∀ c : Fin 3,
        toneEnabled t.cfg t.psg c = (v.getLsbD c.val == decide (s.cfg.mixSetMeans = .enable)) ∧
        noiseEnabled t.cfg t.psg c = (v.getLsbD (3 + c.val) == decide (s.cfg.mixSetMeans = .enable))) ∧
      t = { s with psg := { s.psg with mix := t.psg.mix }, result := .ok }

/-- R84: the level keeps bits 4:0 and the cached output becomes `VT[1 + 2 * level[3:0]]`, non-decreasing in the
volume, and is the one the next TICK uses; no other channel, and nothing else, changes. -/
def Obligations.LevelWriteSetsLevelAndCachedOutput : Prop :=
  ∀ (c : Fin 3) (v : Byte) (s : State),
    decode (Event.psgW (BitVec.ofNat 8 (8 + c.val)) v) = .ok (.psgwLvl c v) ∧
    (∃ t, exec (.psgwLvl c v) s = .next t ∧ t.result = .ok ∧
      (t.psg.level[c]).toNat = v.toNat % 32 ∧
      t.psg.out[c] = s.cfg.volumeTable[1 + 2 * (v.toNat % 16)]'(by omega) ∧
      (∀ d : Fin 3, d ≠ c → t.psg.level[d] = s.psg.level[d] ∧ t.psg.out[d] = s.psg.out[d]) ∧
      (∀ u, exec .tick t = .next u → u.psg.out = t.psg.out) ∧
      t = { s with psg := { s.psg with level := t.psg.level, out := t.psg.out }, result := .ok }) ∧
    (∀ (v' : Byte) (t t' : State), v.toNat % 16 ≤ v'.toNat % 16 → exec (.psgwLvl c v) s = .next t →
      exec (.psgwLvl c v') s = .next t' → (t.psg.out[c]).toNat ≤ (t'.psg.out[c]).toNat)

/-- 40_psg_registers.md section 2 (that a level reads back is decision D16, log entry 10): level bit 4 is stored and
read back, and takes no part in the volume. -/
def Obligations.LevelBitFourIsStoredAndIgnored : Prop :=
  ∀ (c : Fin 3) (v : Byte) (s : State), ∃ t u r,
    exec (.psgwLvl c v) s = .next t ∧ exec (.psgwLvl c (v ^^^ 0x10)) s = .next u ∧
    t.psg.out = u.psg.out ∧ t.psg.level[c] = u.psg.level[c] ^^^ 0x10 ∧
    (t.psg.level[c]).getLsbD 4 = v.getLsbD 4 ∧
    exec (.psgrLvl c) t = .next r ∧ r.result = .byte (v &&& 0x1f)

/-- R87: the envelope registers are accepted with no effect, whatever the value. -/
def Obligations.EnvelopeWritesHaveNoEffect : Prop :=
  ∀ (c : Fin 3) (v : Byte) (s : State),
    decode (Event.psgW (BitVec.ofNat 8 (0x0b + c.val)) v) = .ok (.psgwEnv c v) ∧
    exec (.psgwEnv c v) s = .next { s with result := .ok }

/-- 40_psg_registers.md section 2 (whether 0x0e and 0x0f are accepted is the open parameter of decision D15,
conflict C1): the result follows the parameter, and either way nothing else changes. -/
def Obligations.IoRegisterWritesFollowTheParameter : Prop :=
  ∀ (c : Fin 2) (v : Byte) (s : State),
    decode (Event.psgW (BitVec.ofNat 8 (0x0e + c.val)) v) = .ok (.psgwIo c v) ∧
    ∃ t, exec (.psgwIo c v) s = .next t ∧
      (s.cfg.psgIoRegsAccepted = true → t = { s with result := .ok }) ∧
      (s.cfg.psgIoRegsAccepted = false →
        t = { s with result := .unknownRegister .psg (BitVec.ofNat 8 (0x0e + c.val)) })

/-- R90: a write to 0x10..0xfd always fails, whatever the value, and changes nothing; the next operation runs from
the state as it was. -/
def Obligations.UnknownPsgWritesFail : Prop :=
  ∀ (reg v : Byte) (s : State), 0x10 ≤ reg.toNat → reg.toNat ≤ 0xfd →
    decode (Event.psgW reg v) = .ok (.psgwUnk reg v) ∧
    exec (.psgwUnk reg v) s = .next { s with result := .unknownRegister .psg reg } ∧
    ∀ (i : Instr) (t : State), exec (.psgwUnk reg v) s = .next t → exec i t = exec i s

/-- 40_psg_registers.md section 2 (that 0xfe is no write address is the spec's own inference from the row labels of
the source, R91's mark): a write to 0xfe fails and changes nothing, the clock selector of 0xff included. -/
def Obligations.WriteToFeFailsAndKeepsTheClock : Prop :=
  ∀ (v : Byte) (s : State), decode (Event.psgW 0xfe v) = .ok (.psgwUnk 0xfe v) ∧
    exec (.psgwUnk 0xfe v) s = .next { s with result := .unknownRegister .psg 0xfe }

/-- 40_psg_registers.md section 2 (that one selector governs both engines is decision D21, log entry 12): zero selects
the nominal step, every non-zero value the alternate one, for all nine generators from the next TICK on; a later
period write, of a tone, of the noise or of a wavetable channel, computes the same limit as without it, the selector
is not read back, nothing is recomputed and nothing else changes. -/
def Obligations.ClockWriteSelectsTheStep : Prop :=
  ∀ (v : Byte) (s : State), decode (Event.psgW 0xff v) = .ok (.psgwClk v) ∧
    ∃ t, exec (.psgwClk v) s = .next t ∧
      t = { s with clk := (if v.toNat = 0 then .nominal else .alternate), result := .ok } ∧
      t.clockStep = (if v.toNat = 0 then s.cfg.stepNominal else s.cfg.stepAlt) ∧
      (∃ r, exec .psgrVmaj t = .next r ∧ r.result = .byte 1) ∧
      (∀ i : Instr, IsPeriodWrite i → ∃ a b, exec i s = .next a ∧ exec i t = .next b ∧
        b.psg.limit = a.psg.limit ∧ b.psg.nlimit = a.psg.nlimit ∧ b.wt.limit = a.wt.limit) ∧
      (∀ u, exec .tick t = .next u → u.clockStep = t.clockStep ∧
        (∀ c : Fin 3, u.psg.count[c] = (oscAdvance s.psg.count[c] s.psg.limit[c] t.clockStep).1) ∧
        u.psg.ncount = (oscAdvance s.psg.ncount s.psg.nlimit t.clockStep).1 ∧
        (∀ ch : Fin 5, u.wt.count[ch] = (oscAdvance s.wt.count[ch] s.wt.limit[ch] t.clockStep).1))

/-! ### PSG register reads -/

/-- 40_psg_registers.md section 3 (that registers read back is decision D16, log entry 10): the two addresses of a
tone period return its low byte and its high nibble. -/
def Obligations.TonePeriodReadsReturnItsHalves : Prop :=
  ∀ (c : Fin 3) (s : State),
    decode (Event.psgR (BitVec.ofNat 8 (2 * c.val))) = .ok (.psgrTpl c) ∧
    decode (Event.psgR (BitVec.ofNat 8 (2 * c.val + 1))) = .ok (.psgrTph c) ∧
    exec (.psgrTpl c) s =
      .next { s with result := .byte (BitVec.ofNat 8 ((s.psg.period[c]).toNat % 256)) } ∧
    exec (.psgrTph c) s =
      .next { s with result := .byte (BitVec.ofNat 8 ((s.psg.period[c]).toNat / 256)) }

/-- 40_psg_registers.md section 3 (decision D16, log entry 10): the noise period, the mixer and the levels read
back zero-extended, and reading after writing gives the bits the register keeps. -/
def Obligations.NoiseMixerAndLevelReadBack : Prop :=
  (∀ s : State, exec .psgrNp s = .next { s with result := .byte (BitVec.ofNat 8 s.psg.np.toNat) }) ∧
  (∀ s : State, exec .psgrMix s = .next { s with result := .byte (BitVec.ofNat 8 s.psg.mix.toNat) }) ∧
  (∀ (c : Fin 3) (s : State),
    exec (.psgrLvl c) s = .next { s with result := .byte (BitVec.ofNat 8 (s.psg.level[c]).toNat) }) ∧
  (∀ (v : Byte) (s : State), ∃ t r, exec (.psgwNp v) s = .next t ∧ exec .psgrNp t = .next r ∧
    r.result = .byte (v &&& 0x1f)) ∧
  (∀ (v : Byte) (s : State), ∃ t r, exec (.psgwMix v) s = .next t ∧ exec .psgrMix t = .next r ∧
    r.result = .byte (v &&& 0x3f))

/-- R103, R104: the version reads return 1 in every state, and 0xff does not return the clock selector. -/
def Obligations.VersionReadsReturnOne : Prop :=
  ∀ s : State, decode (Event.psgR 0xfe) = .ok .psgrVmin ∧ decode (Event.psgR 0xff) = .ok .psgrVmaj ∧
    exec .psgrVmin s = .next { s with result := .byte 1 } ∧
    exec .psgrVmaj s = .next { s with result := .byte 1 }

/-- 40_psg_registers.md section 3 (decisions D16 and D15; the drawn byte is a free value, log entry 4): an envelope
register returns the next unspecified byte, and so do 0x0e and 0x0f where they are accepted; where they are not,
they fail. Nothing of the hardware changes, and no byte is drawn twice. -/
def Obligations.StatelessPsgReadsDrawAByte : Prop :=
  (∀ (c : Fin 3) (s : State), decode (Event.psgR (BitVec.ofNat 8 (0x0b + c.val))) = .ok (.psgrEnv c) ∧
    exec (.psgrEnv c) s =
      .next { s with result := .byte (Config.drawByte s.draws), draws := s.draws + 1 }) ∧
  (∀ (c : Fin 2) (s : State), decode (Event.psgR (BitVec.ofNat 8 (0x0e + c.val))) = .ok (.psgrIo c) ∧
    ∃ t, exec (.psgrIo c) s = .next t ∧
      (s.cfg.psgIoRegsAccepted = true →
        t = { s with result := .byte (Config.drawByte s.draws), draws := s.draws + 1 }) ∧
      (s.cfg.psgIoRegsAccepted = false →
        t = { s with result := .unknownRegister .psg (BitVec.ofNat 8 (0x0e + c.val)) }))

/-- R106: a read of 0x10..0xfd always fails, and nothing changes. -/
def Obligations.UnknownPsgReadsFail : Prop :=
  ∀ (reg : Byte) (s : State), 0x10 ≤ reg.toNat → reg.toNat ≤ 0xfd →
    decode (Event.psgR reg) = .ok (.psgrUnk reg) ∧
    exec (.psgrUnk reg) s = .next { s with result := .unknownRegister .psg reg }

/-! ### WT register writes -/

/-- 42_wt_registers.md section 2 (that the byte is two's complement is decision D23, log entry 11): one waveform
byte is written, as the signed number `v` if `v < 128` and `v - 256` otherwise; no other entry of any table, and
nothing else, changes. -/
def Obligations.WaveWriteSetsOneTableEntry : Prop :=
  ∀ (ch : Fin 5) (i : BitVec 5) (v : Byte) (s : State),
    decode (Event.wtW (BitVec.ofNat 8 (32 * ch.val + i.toNat)) v) = .ok (.wtwWave ch i v) ∧
    ∃ t, exec (.wtwWave ch i v) s = .next t ∧ t.result = .ok ∧
      signedByte (t.wt.waveByte ch i) = (if v.toNat < 128 then (v.toNat : Int) else (v.toNat : Int) - 256) ∧
      (∀ (ch' : Fin 5) (j : BitVec 5), (ch' ≠ ch ∨ j ≠ i) → t.wt.waveByte ch' j = s.wt.waveByte ch' j) ∧
      t = { s with wt := { s.wt with wave := t.wt.wave }, result := .ok }

/-- 42_wt_registers.md section 2 (even = low, odd = high is decision D19, the limit formula D20, log entries 8 and
7): under `EVEN_LOW_ODD_HIGH` the two writes of a WT period pair set its halves and recompute its limit; a pair
written low then high leaves the limit at `p * WT_LIMIT_SCALE * SAMPLE_RATE`. -/
def Obligations.WtPeriodWritesSetPeriodAndLimit : Prop :=
  ∀ (ch : Fin 5) (v : Byte) (s : State), s.cfg.wtPeriodSelect = .evenLowOddHigh →
    (∃ t, exec (.wtwPerl ch v) s = .next t ∧ t.result = .ok ∧
      t.wt.period[ch] = (s.wt.period[ch] &&& 0xf00) ||| v.setWidth 12 ∧
      (t.wt.limit[ch]).toNat = (t.wt.period[ch]).toNat * s.cfg.wtLimitScale * s.cfg.sampleRate ∧
      (∀ d : Fin 5, d ≠ ch → t.wt.period[d] = s.wt.period[d] ∧ t.wt.limit[d] = s.wt.limit[d]) ∧
      t = { s with wt := { s.wt with period := t.wt.period, limit := t.wt.limit }, result := .ok }) ∧
    (∃ t, exec (.wtwPerh ch v) s = .next t ∧ t.result = .ok ∧
      t.wt.period[ch] = (s.wt.period[ch] &&& 0x0ff) ||| ((v &&& 0x0f).setWidth 12 <<< 8) ∧
      (t.wt.limit[ch]).toNat = (t.wt.period[ch]).toNat * s.cfg.wtLimitScale * s.cfg.sampleRate ∧
      (∀ d : Fin 5, d ≠ ch → t.wt.period[d] = s.wt.period[d] ∧ t.wt.limit[d] = s.wt.limit[d]) ∧
      t = { s with wt := { s.wt with period := t.wt.period, limit := t.wt.limit }, result := .ok }) ∧
    (∀ p : Period, ∃ t u, exec (.wtwPerl ch (Pseudo.lowByte p)) s = .next t ∧
      exec (.wtwPerh ch (Pseudo.highByte p)) t = .next u ∧ u.wt.period[ch] = p ∧
      (u.wt.limit[ch]).toNat = p.toNat * s.cfg.wtLimitScale * s.cfg.sampleRate)

/-- 93_implementation_defined.md entry U3 (log entry 8): under the upstream's literal selection the two addresses of
a WT period pair are one register: the same write through either, and the half the configuration does not name is
left alone. Entry U3 speaks of writes. That both addresses READ alike is the model's own deduction (log entry 8,
marked DEDUCED): 42_wt_registers.md section 2 has both addresses "reaching the same, unspecified half", 20_memory.md
section 1 reads the "same field", and opcode_table.json notes the half selection on the read rows; the listing of the
read rule selects by the address. -/
def Obligations.UpstreamLiteralPairIsOneRegister : Prop :=
  ∀ (ch : Fin 5) (v : Byte) (h : Config.PeriodHalf) (s : State), s.cfg.wtPeriodSelect = .upstreamLiteral h →
    exec (.wtwPerl ch v) s = exec (.wtwPerh ch v) s ∧ exec (.wtrPerl ch) s = exec (.wtrPerh ch) s ∧
    ∃ t, exec (.wtwPerl ch v) s = .next t ∧ t.result = .ok ∧
      (h = .low → (t.wt.period[ch]).toNat % 256 = v.toNat ∧
        (t.wt.period[ch]).toNat / 256 = (s.wt.period[ch]).toNat / 256) ∧
      (h = .high → (t.wt.period[ch]).toNat / 256 = v.toNat % 16 ∧
        (t.wt.period[ch]).toNat % 256 = (s.wt.period[ch]).toNat % 256) ∧
      (t.wt.limit[ch]).toNat = (t.wt.period[ch]).toNat * s.cfg.wtLimitScale * s.cfg.sampleRate ∧
      t = { s with wt := { s.wt with period := t.wt.period, limit := t.wt.limit }, result := .ok }

/-- 42_wt_registers.md section 2 (the exact product is decision D23, log entry 11): the volume keeps bits 3:0 and
multiplies the waveform byte directly, volume 0 silences the channel exactly, and no other channel, and nothing
else, changes. -/
def Obligations.VolumeWriteSetsTheVolume : Prop :=
  ∀ (ch : Fin 5) (v : Byte) (s : State),
    decode (Event.wtW (BitVec.ofNat 8 (0xaa + ch.val)) v) = .ok (.wtwVol ch v) ∧
    ∃ t, exec (.wtwVol ch v) s = .next t ∧ t.result = .ok ∧ (t.wt.volume[ch]).toNat = v.toNat % 16 ∧
      (t.wt.mute.getLsbD ch.val = false → t.wt.channelOut ch =
        (t.wt.waveByte ch t.wt.offset[ch]).toInt * ((v.toNat % 16 : Nat) : Int)) ∧
      (v.toNat % 16 = 0 → t.wt.channelOut ch = 0) ∧
      (∀ d : Fin 5, d ≠ ch → t.wt.volume[d] = s.wt.volume[d]) ∧
      t = { s with wt := { s.wt with volume := t.wt.volume }, result := .ok }

/-- R134: the mute mask keeps bits 4:0, a set bit mutes its channel, a muted channel outputs 0 and goes on advancing,
and nothing else changes. -/
def Obligations.MuteWriteMutesTheMarkedChannels : Prop :=
  ∀ (v : Byte) (s : State), decode (Event.wtW 0xaf v) = .ok (.wtwMute v) ∧
    ∃ t, exec (.wtwMute v) s = .next t ∧ t.result = .ok ∧ t.wt.mute.toNat = v.toNat % 32 ∧
      (∀ ch : Fin 5, wtToneEnabled t.wt ch = !(v.getLsbD ch.val)) ∧
      (∀ ch : Fin 5, v.getLsbD ch.val = true → t.wt.channelOut ch = 0) ∧
      (∀ a b, exec .tick s = .next a → exec .tick t = .next b →
        b.wt.count = a.wt.count ∧ b.wt.offset = a.wt.offset) ∧
      t = { s with wt := { s.wt with mute := t.wt.mute }, result := .ok }

/-- 42_wt_registers.md sections 2 and 3 (which addresses of 0xb0..0xff are accepted is the open parameter of
decision D22; a read's byte is a free value, log entry 4): write and read follow the parameter, and nothing of the
hardware changes either way. -/
def Obligations.HighWtAccessesFollowTheParameter : Prop :=
  ∀ (reg v : Byte) (s : State), 0xb0 ≤ reg.toNat →
    decode (Event.wtW reg v) = .ok (.wtwHigh reg v) ∧ decode (Event.wtR reg) = .ok (.wtrHigh reg) ∧
    ∃ t u, exec (.wtwHigh reg v) s = .next t ∧ exec (.wtrHigh reg) s = .next u ∧
      (reg ∈ s.cfg.wtHighAccept → t = { s with result := .ok } ∧
        u = { s with result := .byte (Config.drawByte s.draws), draws := s.draws + 1 }) ∧
      (reg ∉ s.cfg.wtHighAccept → t = { s with result := .unknownRegister .wt reg } ∧
        u = { s with result := .unknownRegister .wt reg })

/-! ### WT register reads -/

/-- 42_wt_registers.md section 3 (decision D16, log entry 10): a waveform byte, a volume and the mute mask read back
what they hold, zero-extended, and a waveform byte reads back the byte last written. -/
def Obligations.WaveVolumeAndMuteReadBack : Prop :=
  (∀ (ch : Fin 5) (i : BitVec 5) (s : State),
    exec (.wtrWave ch i) s = .next { s with result := .byte (s.wt.waveByte ch i) }) ∧
  (∀ (ch : Fin 5) (i : BitVec 5) (v : Byte) (s : State), ∃ t r, exec (.wtwWave ch i v) s = .next t ∧
    exec (.wtrWave ch i) t = .next r ∧ r.result = .byte v) ∧
  (∀ (ch : Fin 5) (s : State),
    exec (.wtrVol ch) s = .next { s with result := .byte (BitVec.ofNat 8 (s.wt.volume[ch]).toNat) }) ∧
  (∀ s : State, exec .wtrMute s = .next { s with result := .byte (BitVec.ofNat 8 s.wt.mute.toNat) }) ∧
  (∀ (v : Byte) (s : State), ∃ t r, exec (.wtwMute v) s = .next t ∧ exec .wtrMute t = .next r ∧
    r.result = .byte (v &&& 0x1f))

/-- 42_wt_registers.md section 3 (decisions D16 and D19, log entries 8 and 10): the two addresses of a WT period
return the halves that the selection names: under `EVEN_LOW_ODD_HIGH` those of the rule's listing. The two clauses
under `UPSTREAM_LITERAL` are the model's own deduction (log entry 8, marked DEDUCED), from 42_wt_registers.md section
2 ("reaching the same, unspecified half"), 20_memory.md section 1 ("same field") and the note on the read rows of
opcode_table.json; the listing itself selects by the address. -/
def Obligations.WtPeriodReadsReturnTheSelectedHalves : Prop :=
  ∀ (ch : Fin 5) (s : State), ∃ t u, exec (.wtrPerl ch) s = .next t ∧ exec (.wtrPerh ch) s = .next u ∧
    SameHardware s t ∧ SameEnvironment s t ∧ SameHardware s u ∧ SameEnvironment s u ∧
    (s.cfg.wtPeriodSelect = .evenLowOddHigh →
      t.result = .byte (BitVec.ofNat 8 ((s.wt.period[ch]).toNat % 256)) ∧
      u.result = .byte (BitVec.ofNat 8 ((s.wt.period[ch]).toNat / 256))) ∧
    (s.cfg.wtPeriodSelect = .upstreamLiteral .low →
      t.result = .byte (BitVec.ofNat 8 ((s.wt.period[ch]).toNat % 256)) ∧ u.result = t.result) ∧
    (s.cfg.wtPeriodSelect = .upstreamLiteral .high →
      t.result = .byte (BitVec.ofNat 8 ((s.wt.period[ch]).toNat / 256)) ∧ u.result = t.result)

/-! ### TICK -/

/-- 41_psg_tick.md sections 1 to 3, 43_wt_tick.md (32-bit wrap: decision D6; the count while the limit is 0: D7; one
step for both engines: D21; log entries 6 and 12): TICK completes, and leaves every generator where the source's
subtract loop leaves it, with one flip, one shift-register step or one offset step per round. -/
def Obligations.TickRunsTheSourceLoopOnEveryGenerator : Prop :=
  ∀ s : State, ∃ t w, exec .tick s = .next t ∧ t.result = .sample w ∧
    ∀ (step fuel : Nat), step = (if s.clk = .nominal then s.cfg.stepNominal else s.cfg.stepAlt) → 2 ^ 32 ≤ fuel →
      (∀ c : Fin 3, sourceLoop (fun b => !b) fuel (((s.psg.count[c]).toNat + step) % 2 ^ 32)
        (s.psg.limit[c]).toNat s.psg.on[c] = ((t.psg.count[c]).toNat, t.psg.on[c])) ∧
      sourceLoop (lfsrNext s.cfg.lfsrForce s.cfg.polyTap) fuel ((s.psg.ncount.toNat + step) % 2 ^ 32)
        s.psg.nlimit.toNat s.psg.seed = (t.psg.ncount.toNat, t.psg.seed) ∧
      (∀ ch : Fin 5, sourceLoop (fun o : BitVec 5 => o + 1) fuel (((s.wt.count[ch]).toNat + step) % 2 ^ 32)
        (s.wt.limit[ch]).toNat s.wt.offset[ch] = ((t.wt.count[ch]).toNat, t.wt.offset[ch]))

/-- 44_mixer_tick.md section 1 (R160's list of the state written): TICK changes nothing but the counts, the phase
flags, the seed, the offsets and the result it returns. -/
def Obligations.TickWritesOnlyTheGenerators : Prop :=
  ∀ s : State, ∃ t w, exec .tick s = .next t ∧
    t = { s with
      psg := { s.psg with count := t.psg.count, on := t.psg.on, ncount := t.psg.ncount, seed := t.psg.seed }
      wt := { s.wt with count := t.wt.count, offset := t.wt.offset }
      result := .sample w }

/-- 41_psg_tick.md section 4, 43_wt_tick.md, 44_mixer_tick.md (combination: decision D10; order within the tick: D8;
product: D23; blend: D24; log entries 7, 11, 12, 13): the output word is the blend of the two exact sums, taken
after the advances by the truth table of R115 and the products of R151, with no wrap and no clamp. -/
def Obligations.TickOutputIsTheExactBlend : Prop :=
  ∀ s t : State, exec .tick s = .next t → ∃ w, t.result = .sample w ∧
    truthTableSum t ≤ 765 ∧ -9600 ≤ unmutedSum t ∧ unmutedSum t ≤ 9525 ∧
    (s.cfg.blend = .psgOnly → w.toNat = truthTableSum t) ∧
    (s.cfg.blend = .wtOnly → (w.toNat : Int) = unmutedSum t + 32768 ∧ 23168 ≤ w.toNat ∧ w.toNat ≤ 42293) ∧
    (s.cfg.blend = .both →
      (w.toNat : Int) = (truthTableSum t / 2 : Nat) + (unmutedSum t + 32768) / 2 ∧
      11584 ≤ w.toNat ∧ w.toNat ≤ 21528)

/-- 10_state.md section 2, 41_psg_tick.md section 1 (R14 and R110 as the spec derives them; decision D6): after
every TICK each count is below its limit, unless the limit is 0. -/
def Obligations.CountsAreBelowNonZeroLimitsAfterTick : Prop :=
  ∀ s t : State, exec .tick s = .next t →
    (∀ c : Fin 3, 0 < (t.psg.limit[c]).toNat → (t.psg.count[c]).toNat < (t.psg.limit[c]).toNat) ∧
    (0 < t.psg.nlimit.toNat → t.psg.ncount.toNat < t.psg.nlimit.toNat) ∧
    (∀ ch : Fin 5, 0 < (t.wt.limit[ch]).toNat → (t.wt.count[ch]).toNat < (t.wt.limit[ch]).toNat)

/-- 41_psg_tick.md section 1 (properties (b), (c) and (d) of R110; decision D6): the number of expiries of one
advance is bounded, and from a count below the limit the addition wraps in no consistent state. -/
def Obligations.ExpiriesOfOneAdvanceAreBounded : Prop :=
  (∀ (count limit : Acc) (step : Nat), 0 < limit.toNat →
    (oscAdvance count limit step).2 ≤ (2 ^ 32 - 1) / limit.toNat ∧
    (count.toNat < limit.toNat → (oscAdvance count limit step).2 ≤ step / limit.toNat + 1)) ∧
  (∀ s : State, s.Consistent →
    (∀ c : Fin 3, (s.psg.count[c]).toNat < (s.psg.limit[c]).toNat →
      (s.psg.count[c]).toNat + s.clockStep < 2 ^ 32) ∧
    (s.psg.ncount.toNat < s.psg.nlimit.toNat → s.psg.ncount.toNat + s.clockStep < 2 ^ 32) ∧
    (∀ ch : Fin 5, (s.wt.count[ch]).toNat < (s.wt.limit[ch]).toNat →
      (s.wt.count[ch]).toNat + s.clockStep < 2 ^ 32))

/-- 41_psg_tick.md sections 1 and 5, 43_wt_tick.md (decisions D6, D7; log entry 6): in one TICK a generator whose
limit is 0 adds the step to its count modulo 2^32 and keeps its phase, and every generator whose limit is not 0
advances by its own count, limit and phase and the step alone, whatever the limits of the others are. -/
def Obligations.ZeroLimitFreezesThePhaseOnly : Prop :=
  ∀ s t : State, exec .tick s = .next t →
    (∀ c : Fin 3, (s.psg.limit[c]).toNat = 0 → t.psg.on[c] = s.psg.on[c] ∧
      (t.psg.count[c]).toNat = ((s.psg.count[c]).toNat + s.clockStep) % 2 ^ 32) ∧
    (∀ c : Fin 3, 0 < (s.psg.limit[c]).toNat →
      (t.psg.count[c]).toNat = ((s.psg.count[c]).toNat + s.clockStep) % 2 ^ 32 % (s.psg.limit[c]).toNat ∧
      t.psg.on[c] = (s.psg.on[c] ^^
        decide (((s.psg.count[c]).toNat + s.clockStep) % 2 ^ 32 / (s.psg.limit[c]).toNat % 2 = 1))) ∧
    (s.psg.nlimit.toNat = 0 → t.psg.seed = s.psg.seed ∧
      t.psg.ncount.toNat = (s.psg.ncount.toNat + s.clockStep) % 2 ^ 32) ∧
    (0 < s.psg.nlimit.toNat →
      t.psg.ncount.toNat = (s.psg.ncount.toNat + s.clockStep) % 2 ^ 32 % s.psg.nlimit.toNat ∧
      t.psg.seed = (lfsrNext s.cfg.lfsrForce s.cfg.polyTap)^[(s.psg.ncount.toNat + s.clockStep) % 2 ^ 32 /
        s.psg.nlimit.toNat] s.psg.seed) ∧
    (∀ ch : Fin 5, (s.wt.limit[ch]).toNat = 0 → t.wt.offset[ch] = s.wt.offset[ch] ∧
      (t.wt.count[ch]).toNat = ((s.wt.count[ch]).toNat + s.clockStep) % 2 ^ 32) ∧
    (∀ ch : Fin 5, 0 < (s.wt.limit[ch]).toNat →
      (t.wt.count[ch]).toNat = ((s.wt.count[ch]).toNat + s.clockStep) % 2 ^ 32 % (s.wt.limit[ch]).toNat ∧
      (t.wt.offset[ch]).toNat = ((s.wt.offset[ch]).toNat +
        ((s.wt.count[ch]).toNat + s.clockStep) % 2 ^ 32 / (s.wt.limit[ch]).toNat) % 32)

/-- 44_mixer_tick.md section 1 (R165 as the spec derives it; the silent words rest on decision D24, log entry 13):
with every tone and noise path disabled and every wavetable channel muted, under `GATE_AND` or `REPLACE`, every
TICK returns the silent word: 0, 0x8000 or 0x4000 by the blend. -/
def Obligations.DisabledChannelsGiveTheSilentWord : Prop :=
  ∀ s : State, s.cfg.combine ≠ .chipOr →
    (∀ c : Fin 3, toneEnabled s.cfg s.psg c = false ∧ noiseEnabled s.cfg s.psg c = false) →
    (∀ ch : Fin 5, s.wt.mute.getLsbD ch.val = true) →
    ∃ t, exec .tick s = .next t ∧ t.result = .sample (silentWord s.cfg) ∧
      silentWord s.cfg = (match s.cfg.blend with | .psgOnly => 0 | .wtOnly => 0x8000 | .both => 0x4000)

/-- 20_memory.md section 3 (R52), 43_wt_tick.md section (R151, R153; the product is decision D23, log entry 11): a
waveform byte written just before a TICK is what that TICK plays where the offset lands on it, and the write moves
no generator. -/
def Obligations.WaveWriteIsHeardByTheNextTick : Prop :=
  ∀ (ch : Fin 5) (i : BitVec 5) (v : Byte) (s : State), ∃ t u r,
    exec (.wtwWave ch i v) s = .next t ∧ exec .tick t = .next u ∧ exec .tick s = .next r ∧
    u.wt.offset = r.wt.offset ∧ u.wt.count = r.wt.count ∧ u.psg = r.psg ∧ u.wt.wave = t.wt.wave ∧
    (u.wt.offset[ch] = i → u.wt.mute.getLsbD ch.val = false →
      u.wt.channelOut ch = v.toInt * ((u.wt.volume[ch]).toNat : Int)) ∧
    (u.wt.offset[ch] ≠ i → u.result = r.result) ∧
    (∀ d : Fin 5, d ≠ ch → u.wt.channelOut d = r.wt.channelOut d)

/-- 44_mixer_tick.md section 1 (decision D25, log entry 13): the blend selects what reaches the output word and
nothing else: two machines that differ in it alone stay equal in every engine element through every operation. -/
def Obligations.EngineStateIsIndependentOfTheBlend : Prop :=
  ∀ (s s' : State) (i : Instr) (b : Config.Blend),
    s'.cfg.toParams = { s.cfg.toParams with blend := b } → s' = { s with cfg := s'.cfg } →
    (∀ t, exec i s = .next t → ∃ t', exec i s' = .next t' ∧ SameHardware t t' ∧ t'.events = t.events ∧
      t'.draws = t.draws ∧ (i ≠ .tick → t'.result = t.result))

/-! ### The noise shift register -/

/-- 41_psg_tick.md section 3 (property (a) of R114): one step of the shift register gives a non-zero value in both
force modes and for every tap. -/
def Obligations.ShiftRegisterIsNeverZero : Prop :=
  ∀ (f : Config.LfsrForce) (tap s : Seed), lfsrNext f tap s ≠ 0

/-- 41_psg_tick.md section 3 (property (b) of R114; the tap 0x10000 and the guard are decision D12, log entry 7):
with the reference parameters the shift register is one cycle through all 131071 non-zero values. -/
def Obligations.ReferenceNoiseHasTheFullPeriod : Prop :=
  ∀ s : Seed, s ≠ 0 →
    (∀ k : Nat, ((lfsrNext .ifZero 0x10000)^[k] s = s ↔ k % 131071 = 0)) ∧
    (∀ s' : Seed, s' ≠ 0 → ∃ k, k < 131071 ∧ (lfsrNext .ifZero 0x10000)^[k] s = s')

/-- 41_psg_tick.md section 3 (property (c) of R114): with the literal force of bit 16, every value after the first
step has that bit set, whatever the tap, and with the tap 0x10000 the register started at 0x10000 stays at 0x1ffff
from step 16 on. -/
def Obligations.AlwaysForcedNoiseReachesAFixedPoint : Prop :=
  (∀ (tap s : Seed) (k : Nat), ((lfsrNext .always tap)^[k + 1] s).getLsbD 16 = true) ∧
  (∀ k : Nat, (lfsrNext .always 0x10000)^[k + 16] 0x10000 = 0x1ffff) ∧
  (lfsrNext .always 0x10000)^[15] 0x10000 ≠ 0x1ffff

/-! ### RESET -/

/-- 70_reset_and_hazards.md section 1 (only `limit = 0` is the source's; every other value is decision D26, log
entry 5): RESET completes from every state and installs the reset value of every element, keeping the
configuration, the stream and the count of drawn bytes. -/
def Obligations.ResetInstallsTheResetValues : Prop :=
  ∀ s : State, ∃ t, exec .reset s = .next t ∧ t.result = .none ∧ SameEnvironment s t ∧
    (∀ c : Fin 3, t.psg.period[c] = 0 ∧ t.psg.level[c] = 0 ∧ t.psg.limit[c] = 0 ∧ t.psg.count[c] = 0 ∧
      t.psg.on[c] = false ∧ t.psg.out[c] = s.cfg.volumeTable[1]) ∧
    t.psg.mix = 0 ∧ t.psg.np = 0 ∧ t.psg.nlimit = 0 ∧ t.psg.ncount = 0 ∧ t.psg.seed = s.cfg.seedInit ∧
    t.clk = .nominal ∧
    (∀ ch : Fin 5, t.wt.period[ch] = 0 ∧ t.wt.volume[ch] = 0 ∧ t.wt.limit[ch] = 0 ∧ t.wt.count[ch] = 0 ∧
      t.wt.offset[ch] = 0 ∧ ∀ i : BitVec 5, t.wt.waveByte ch i = 0) ∧
    t.wt.mute = 0

/-- 70_reset_and_hazards.md section 1 (R201 as the spec derives it; decisions D6, D7, D10, D24, D26): from the reset
state of ANY configuration, any number of TICKs leave the phases and the seed as they are, put every count at
`n * step` modulo 2^32, and all return the same word, the blend of three times the reset channel output. -/
def Obligations.ResetStateUnderTicksOnlyCounts : Prop :=
  ∀ (cfg : Configuration) (n : Nat), ∃ t,
    Host.Core.run Sys2Proof.core n { State.resetWith cfg with events := List.replicate n Event.tick } = .next t ∧
    t.psg = { Psg.initial cfg with
      count := Vector.replicate 3 (BitVec.ofNat 32 (n * cfg.stepNominal))
      ncount := BitVec.ofNat 32 (n * cfg.stepNominal) } ∧
    t.wt = { Wt.initial with count := Vector.replicate 5 (BitVec.ofNat 32 (n * cfg.stepNominal)) } ∧
    t.clk = .nominal ∧ t.cfg = cfg ∧ t.events = [] ∧
    (0 < n → t.result = .sample (blendWord cfg.blend (3 * resetChannelOut cfg) 0)) ∧
    (cfg.combine ≠ .chipOr → cfg.mixSetMeans = .enable →
      blendWord cfg.blend (3 * resetChannelOut cfg) 0 = silentWord cfg)
end

