-- ==== Sys2Proof/Laws/Decode.lean ====
section
/-! SUPPORT. The fields of a packed event word, and what the decoder makes of one: the lemmas that proofs about the
encoding cite instead of unfolding the decoder. -/

namespace Sys2Proof

namespace Event

variable (k : BitVec 2) (c r : BitVec 1) (g v : Byte)

theorem pack_toNat :
    (pack k c r g v).toNat = k.toNat * 262144 + c.toNat * 131072 + r.toNat * 65536 + g.toNat * 256 + v.toNat := by
  have hr : r.toNat < 2 ^ 1 := r.isLt
  simp only [pack, BitVec.toNat_append]
  rw [← Nat.shiftLeft_add_eq_or_of_lt v.isLt, ← Nat.shiftLeft_add_eq_or_of_lt g.isLt,
    ← Nat.shiftLeft_add_eq_or_of_lt hr, ← Nat.shiftLeft_add_eq_or_of_lt c.isLt]
  simp only [Nat.shiftLeft_eq]
  omega

@[simp] theorem kind_pack : kind (pack k c r g v) = k := by
  apply BitVec.eq_of_toNat_eq
  have := k.isLt; have := c.isLt; have := r.isLt; have := g.isLt; have := v.isLt
  simp only [kind, BitVec.extractLsb'_toNat, pack_toNat, Nat.shiftRight_eq_div_pow]
  omega

@[simp] theorem cs_pack : cs (pack k c r g v) = c := by
  apply BitVec.eq_of_toNat_eq
  have := k.isLt; have := c.isLt; have := r.isLt; have := g.isLt; have := v.isLt
  simp only [cs, BitVec.extractLsb'_toNat, pack_toNat, Nat.shiftRight_eq_div_pow]
  omega

@[simp] theorem rw_pack : rw (pack k c r g v) = r := by
  apply BitVec.eq_of_toNat_eq
  have := k.isLt; have := c.isLt; have := r.isLt; have := g.isLt; have := v.isLt
  simp only [rw, BitVec.extractLsb'_toNat, pack_toNat, Nat.shiftRight_eq_div_pow]
  omega

@[simp] theorem reg_pack : reg (pack k c r g v) = g := by
  apply BitVec.eq_of_toNat_eq
  have := k.isLt; have := c.isLt; have := r.isLt; have := g.isLt; have := v.isLt
  simp only [reg, BitVec.extractLsb'_toNat, pack_toNat, Nat.shiftRight_eq_div_pow]
  omega

@[simp] theorem value_pack : value (pack k c r g v) = v := by
  apply BitVec.eq_of_toNat_eq
  have := k.isLt; have := c.isLt; have := r.isLt; have := g.isLt; have := v.isLt
  simp only [value, BitVec.extractLsb'_toNat, pack_toNat, Nat.shiftRight_eq_div_pow]
  omega

/-- A word is its five fields packed: no bit of it is outside a field. -/
theorem pack_fields (w : EventWord) : pack (kind w) (cs w) (rw w) (reg w) (value w) = w := by
  apply BitVec.eq_of_toNat_eq
  have := w.isLt
  simp only [pack_toNat, kind, cs, rw, reg, value, BitVec.extractLsb'_toNat, Nat.shiftRight_eq_div_pow]
  omega

end Event

/-! The decoder on the words of the four kinds of register operation. -/

theorem decode_pack_register (c r : BitVec 1) (g v : Byte) :
    decode (Event.pack 0#2 c r g v) = .ok (decodeRegisterOp c r g v) := by
  simp [decode]

@[simp] theorem decode_psgW (g v : Byte) : decode (Event.psgW g v) = .ok (decodePsgWrite g v) := by
  simp [Event.psgW, decode_pack_register, decodeRegisterOp]

@[simp] theorem decode_psgR (g : Byte) : decode (Event.psgR g) = .ok (decodePsgRead g) := by
  simp [Event.psgR, decode_pack_register, decodeRegisterOp]

@[simp] theorem decode_wtW (g v : Byte) : decode (Event.wtW g v) = .ok (decodeWtWrite g v) := by
  simp [Event.wtW, decode_pack_register, decodeRegisterOp]

@[simp] theorem decode_wtR (g : Byte) : decode (Event.wtR g) = .ok (decodeWtRead g) := by
  simp [Event.wtR, decode_pack_register, decodeRegisterOp]

theorem waveReg_toNat (ch : BitVec 3) (i : BitVec 5) : (waveReg ch i).toNat = ch.toNat * 32 + i.toNat := by
  simp only [waveReg, BitVec.toNat_append]
  rw [← Nat.shiftLeft_add_eq_or_of_lt i.isLt]
  simp [Nat.shiftLeft_eq]

/-- The channel of a waveform address is the one it was made from. -/
theorem waveReg_div (ch : BitVec 3) (i : BitVec 5) : (waveReg ch i).toNat / 32 = ch.toNat := by
  have := i.isLt
  rw [waveReg_toNat]
  omega

/-- The table index of a waveform address is the one it was made from. -/
@[simp] theorem waveIndex_waveReg (ch : BitVec 3) (i : BitVec 5) : waveIndex (waveReg ch i) = i := by
  apply BitVec.eq_of_toNat_eq
  have := i.isLt
  simp only [waveIndex, BitVec.extractLsb'_toNat, waveReg_toNat, Nat.shiftRight_zero]
  omega

end Sys2Proof
end

