-- ==== Sys2Proof/Laws/State.lean ====
section
/-! SUPPORT. What each update of the state leaves in each field: one lemma per field per update, true by
unfolding, so that no later proof unfolds a record update. -/

namespace Sys2Proof.Machine

variable (s : State)

/-! `setTonePeriod` -/

@[simp] theorem State.setTonePeriod_cfg (c : Fin 3) (p : Period) : (s.setTonePeriod c p).cfg = s.cfg := rfl
@[simp] theorem State.setTonePeriod_clk (c : Fin 3) (p : Period) : (s.setTonePeriod c p).clk = s.clk := rfl
@[simp] theorem State.setTonePeriod_events (c : Fin 3) (p : Period) :
    (s.setTonePeriod c p).events = s.events := rfl
@[simp] theorem State.setTonePeriod_result (c : Fin 3) (p : Period) :
    (s.setTonePeriod c p).result = s.result := rfl
@[simp] theorem State.setTonePeriod_draws (c : Fin 3) (p : Period) :
    (s.setTonePeriod c p).draws = s.draws := rfl
@[simp] theorem State.setTonePeriod_psg_period (c : Fin 3) (p : Period) :
    (s.setTonePeriod c p).psg.period = s.psg.period.set c p := rfl
@[simp] theorem State.setTonePeriod_psg_level (c : Fin 3) (p : Period) :
    (s.setTonePeriod c p).psg.level = s.psg.level := rfl
@[simp] theorem State.setTonePeriod_psg_limit (c : Fin 3) (p : Period) :
    (s.setTonePeriod c p).psg.limit = s.psg.limit.set c (toneLimit s.cfg p) := rfl
@[simp] theorem State.setTonePeriod_psg_count (c : Fin 3) (p : Period) :
    (s.setTonePeriod c p).psg.count = s.psg.count := rfl
@[simp] theorem State.setTonePeriod_psg_on (c : Fin 3) (p : Period) :
    (s.setTonePeriod c p).psg.on = s.psg.on := rfl
@[simp] theorem State.setTonePeriod_psg_out (c : Fin 3) (p : Period) :
    (s.setTonePeriod c p).psg.out = s.psg.out := rfl
@[simp] theorem State.setTonePeriod_psg_mix (c : Fin 3) (p : Period) :
    (s.setTonePeriod c p).psg.mix = s.psg.mix := rfl
@[simp] theorem State.setTonePeriod_psg_np (c : Fin 3) (p : Period) :
    (s.setTonePeriod c p).psg.np = s.psg.np := rfl
@[simp] theorem State.setTonePeriod_psg_nlimit (c : Fin 3) (p : Period) :
    (s.setTonePeriod c p).psg.nlimit = s.psg.nlimit := rfl
@[simp] theorem State.setTonePeriod_psg_ncount (c : Fin 3) (p : Period) :
    (s.setTonePeriod c p).psg.ncount = s.psg.ncount := rfl
@[simp] theorem State.setTonePeriod_psg_seed (c : Fin 3) (p : Period) :
    (s.setTonePeriod c p).psg.seed = s.psg.seed := rfl
@[simp] theorem State.setTonePeriod_wt (c : Fin 3) (p : Period) : (s.setTonePeriod c p).wt = s.wt := rfl

/-! `setNoisePeriod` -/

@[simp] theorem State.setNoisePeriod_cfg (np : BitVec 5) : (s.setNoisePeriod np).cfg = s.cfg := rfl
@[simp] theorem State.setNoisePeriod_clk (np : BitVec 5) : (s.setNoisePeriod np).clk = s.clk := rfl
@[simp] theorem State.setNoisePeriod_events (np : BitVec 5) : (s.setNoisePeriod np).events = s.events := rfl
@[simp] theorem State.setNoisePeriod_result (np : BitVec 5) : (s.setNoisePeriod np).result = s.result := rfl
@[simp] theorem State.setNoisePeriod_draws (np : BitVec 5) : (s.setNoisePeriod np).draws = s.draws := rfl
@[simp] theorem State.setNoisePeriod_psg_period (np : BitVec 5) :
    (s.setNoisePeriod np).psg.period = s.psg.period := rfl
@[simp] theorem State.setNoisePeriod_psg_level (np : BitVec 5) :
    (s.setNoisePeriod np).psg.level = s.psg.level := rfl
@[simp] theorem State.setNoisePeriod_psg_limit (np : BitVec 5) :
    (s.setNoisePeriod np).psg.limit = s.psg.limit := rfl
@[simp] theorem State.setNoisePeriod_psg_count (np : BitVec 5) :
    (s.setNoisePeriod np).psg.count = s.psg.count := rfl
@[simp] theorem State.setNoisePeriod_psg_on (np : BitVec 5) : (s.setNoisePeriod np).psg.on = s.psg.on := rfl
@[simp] theorem State.setNoisePeriod_psg_out (np : BitVec 5) :
    (s.setNoisePeriod np).psg.out = s.psg.out := rfl
@[simp] theorem State.setNoisePeriod_psg_mix (np : BitVec 5) :
    (s.setNoisePeriod np).psg.mix = s.psg.mix := rfl
@[simp] theorem State.setNoisePeriod_psg_np (np : BitVec 5) : (s.setNoisePeriod np).psg.np = np := rfl
@[simp] theorem State.setNoisePeriod_psg_nlimit (np : BitVec 5) :
    (s.setNoisePeriod np).psg.nlimit = noiseLimit s.cfg np := rfl
@[simp] theorem State.setNoisePeriod_psg_ncount (np : BitVec 5) :
    (s.setNoisePeriod np).psg.ncount = s.psg.ncount := rfl
@[simp] theorem State.setNoisePeriod_psg_seed (np : BitVec 5) :
    (s.setNoisePeriod np).psg.seed = s.psg.seed := rfl
@[simp] theorem State.setNoisePeriod_wt (np : BitVec 5) : (s.setNoisePeriod np).wt = s.wt := rfl

/-! `setMix` -/

@[simp] theorem State.setMix_cfg (m : BitVec 6) : (s.setMix m).cfg = s.cfg := rfl
@[simp] theorem State.setMix_clk (m : BitVec 6) : (s.setMix m).clk = s.clk := rfl
@[simp] theorem State.setMix_events (m : BitVec 6) : (s.setMix m).events = s.events := rfl
@[simp] theorem State.setMix_result (m : BitVec 6) : (s.setMix m).result = s.result := rfl
@[simp] theorem State.setMix_draws (m : BitVec 6) : (s.setMix m).draws = s.draws := rfl
@[simp] theorem State.setMix_psg_period (m : BitVec 6) : (s.setMix m).psg.period = s.psg.period := rfl
@[simp] theorem State.setMix_psg_level (m : BitVec 6) : (s.setMix m).psg.level = s.psg.level := rfl
@[simp] theorem State.setMix_psg_limit (m : BitVec 6) : (s.setMix m).psg.limit = s.psg.limit := rfl
@[simp] theorem State.setMix_psg_count (m : BitVec 6) : (s.setMix m).psg.count = s.psg.count := rfl
@[simp] theorem State.setMix_psg_on (m : BitVec 6) : (s.setMix m).psg.on = s.psg.on := rfl
@[simp] theorem State.setMix_psg_out (m : BitVec 6) : (s.setMix m).psg.out = s.psg.out := rfl
@[simp] theorem State.setMix_psg_mix (m : BitVec 6) : (s.setMix m).psg.mix = m := rfl
@[simp] theorem State.setMix_psg_np (m : BitVec 6) : (s.setMix m).psg.np = s.psg.np := rfl
@[simp] theorem State.setMix_psg_nlimit (m : BitVec 6) : (s.setMix m).psg.nlimit = s.psg.nlimit := rfl
@[simp] theorem State.setMix_psg_ncount (m : BitVec 6) : (s.setMix m).psg.ncount = s.psg.ncount := rfl
@[simp] theorem State.setMix_psg_seed (m : BitVec 6) : (s.setMix m).psg.seed = s.psg.seed := rfl
@[simp] theorem State.setMix_wt (m : BitVec 6) : (s.setMix m).wt = s.wt := rfl

/-! `setLevel` -/

@[simp] theorem State.setLevel_cfg (c : Fin 3) (l : BitVec 5) : (s.setLevel c l).cfg = s.cfg := rfl
@[simp] theorem State.setLevel_clk (c : Fin 3) (l : BitVec 5) : (s.setLevel c l).clk = s.clk := rfl
@[simp] theorem State.setLevel_events (c : Fin 3) (l : BitVec 5) : (s.setLevel c l).events = s.events := rfl
@[simp] theorem State.setLevel_result (c : Fin 3) (l : BitVec 5) : (s.setLevel c l).result = s.result := rfl
@[simp] theorem State.setLevel_draws (c : Fin 3) (l : BitVec 5) : (s.setLevel c l).draws = s.draws := rfl
@[simp] theorem State.setLevel_psg_period (c : Fin 3) (l : BitVec 5) :
    (s.setLevel c l).psg.period = s.psg.period := rfl
@[simp] theorem State.setLevel_psg_level (c : Fin 3) (l : BitVec 5) :
    (s.setLevel c l).psg.level = s.psg.level.set c l := rfl
@[simp] theorem State.setLevel_psg_limit (c : Fin 3) (l : BitVec 5) :
    (s.setLevel c l).psg.limit = s.psg.limit := rfl
@[simp] theorem State.setLevel_psg_count (c : Fin 3) (l : BitVec 5) :
    (s.setLevel c l).psg.count = s.psg.count := rfl
@[simp] theorem State.setLevel_psg_on (c : Fin 3) (l : BitVec 5) : (s.setLevel c l).psg.on = s.psg.on := rfl
@[simp] theorem State.setLevel_psg_out (c : Fin 3) (l : BitVec 5) :
    (s.setLevel c l).psg.out = s.psg.out.set c (levelOut s.cfg l) := rfl
@[simp] theorem State.setLevel_psg_mix (c : Fin 3) (l : BitVec 5) :
    (s.setLevel c l).psg.mix = s.psg.mix := rfl
@[simp] theorem State.setLevel_psg_np (c : Fin 3) (l : BitVec 5) : (s.setLevel c l).psg.np = s.psg.np := rfl
@[simp] theorem State.setLevel_psg_nlimit (c : Fin 3) (l : BitVec 5) :
    (s.setLevel c l).psg.nlimit = s.psg.nlimit := rfl
@[simp] theorem State.setLevel_psg_ncount (c : Fin 3) (l : BitVec 5) :
    (s.setLevel c l).psg.ncount = s.psg.ncount := rfl
@[simp] theorem State.setLevel_psg_seed (c : Fin 3) (l : BitVec 5) :
    (s.setLevel c l).psg.seed = s.psg.seed := rfl
@[simp] theorem State.setLevel_wt (c : Fin 3) (l : BitVec 5) : (s.setLevel c l).wt = s.wt := rfl

/-! `setClock` -/

@[simp] theorem State.setClock_cfg (k : Clock) : (s.setClock k).cfg = s.cfg := rfl
@[simp] theorem State.setClock_clk (k : Clock) : (s.setClock k).clk = k := rfl
@[simp] theorem State.setClock_events (k : Clock) : (s.setClock k).events = s.events := rfl
@[simp] theorem State.setClock_result (k : Clock) : (s.setClock k).result = s.result := rfl
@[simp] theorem State.setClock_draws (k : Clock) : (s.setClock k).draws = s.draws := rfl
@[simp] theorem State.setClock_psg (k : Clock) : (s.setClock k).psg = s.psg := rfl
@[simp] theorem State.setClock_wt (k : Clock) : (s.setClock k).wt = s.wt := rfl

/-! `setWave` -/

@[simp] theorem State.setWave_cfg (ch : Fin 5) (i : BitVec 5) (b : Byte) :
    (s.setWave ch i b).cfg = s.cfg := rfl
@[simp] theorem State.setWave_clk (ch : Fin 5) (i : BitVec 5) (b : Byte) :
    (s.setWave ch i b).clk = s.clk := rfl
@[simp] theorem State.setWave_events (ch : Fin 5) (i : BitVec 5) (b : Byte) :
    (s.setWave ch i b).events = s.events := rfl
@[simp] theorem State.setWave_result (ch : Fin 5) (i : BitVec 5) (b : Byte) :
    (s.setWave ch i b).result = s.result := rfl
@[simp] theorem State.setWave_draws (ch : Fin 5) (i : BitVec 5) (b : Byte) :
    (s.setWave ch i b).draws = s.draws := rfl
@[simp] theorem State.setWave_psg (ch : Fin 5) (i : BitVec 5) (b : Byte) :
    (s.setWave ch i b).psg = s.psg := rfl
@[simp] theorem State.setWave_wt_period (ch : Fin 5) (i : BitVec 5) (b : Byte) :
    (s.setWave ch i b).wt.period = s.wt.period := rfl
@[simp] theorem State.setWave_wt_volume (ch : Fin 5) (i : BitVec 5) (b : Byte) :
    (s.setWave ch i b).wt.volume = s.wt.volume := rfl
@[simp] theorem State.setWave_wt_mute (ch : Fin 5) (i : BitVec 5) (b : Byte) :
    (s.setWave ch i b).wt.mute = s.wt.mute := rfl
@[simp] theorem State.setWave_wt_limit (ch : Fin 5) (i : BitVec 5) (b : Byte) :
    (s.setWave ch i b).wt.limit = s.wt.limit := rfl
@[simp] theorem State.setWave_wt_count (ch : Fin 5) (i : BitVec 5) (b : Byte) :
    (s.setWave ch i b).wt.count = s.wt.count := rfl
@[simp] theorem State.setWave_wt_offset (ch : Fin 5) (i : BitVec 5) (b : Byte) :
    (s.setWave ch i b).wt.offset = s.wt.offset := rfl

/-! `setWtPeriod` -/

@[simp] theorem State.setWtPeriod_cfg (ch : Fin 5) (p : Period) : (s.setWtPeriod ch p).cfg = s.cfg := rfl
@[simp] theorem State.setWtPeriod_clk (ch : Fin 5) (p : Period) : (s.setWtPeriod ch p).clk = s.clk := rfl
@[simp] theorem State.setWtPeriod_events (ch : Fin 5) (p : Period) :
    (s.setWtPeriod ch p).events = s.events := rfl
@[simp] theorem State.setWtPeriod_result (ch : Fin 5) (p : Period) :
    (s.setWtPeriod ch p).result = s.result := rfl
@[simp] theorem State.setWtPeriod_draws (ch : Fin 5) (p : Period) :
    (s.setWtPeriod ch p).draws = s.draws := rfl
@[simp] theorem State.setWtPeriod_psg (ch : Fin 5) (p : Period) : (s.setWtPeriod ch p).psg = s.psg := rfl
@[simp] theorem State.setWtPeriod_wt_wave (ch : Fin 5) (p : Period) :
    (s.setWtPeriod ch p).wt.wave = s.wt.wave := rfl
@[simp] theorem State.setWtPeriod_wt_period (ch : Fin 5) (p : Period) :
    (s.setWtPeriod ch p).wt.period = s.wt.period.set ch p := rfl
@[simp] theorem State.setWtPeriod_wt_volume (ch : Fin 5) (p : Period) :
    (s.setWtPeriod ch p).wt.volume = s.wt.volume := rfl
@[simp] theorem State.setWtPeriod_wt_mute (ch : Fin 5) (p : Period) :
    (s.setWtPeriod ch p).wt.mute = s.wt.mute := rfl
@[simp] theorem State.setWtPeriod_wt_limit (ch : Fin 5) (p : Period) :
    (s.setWtPeriod ch p).wt.limit = s.wt.limit.set ch (wtLimit s.cfg p) := rfl
@[simp] theorem State.setWtPeriod_wt_count (ch : Fin 5) (p : Period) :
    (s.setWtPeriod ch p).wt.count = s.wt.count := rfl
@[simp] theorem State.setWtPeriod_wt_offset (ch : Fin 5) (p : Period) :
    (s.setWtPeriod ch p).wt.offset = s.wt.offset := rfl

/-! `setVolume` -/

@[simp] theorem State.setVolume_cfg (ch : Fin 5) (v : BitVec 4) : (s.setVolume ch v).cfg = s.cfg := rfl
@[simp] theorem State.setVolume_clk (ch : Fin 5) (v : BitVec 4) : (s.setVolume ch v).clk = s.clk := rfl
@[simp] theorem State.setVolume_events (ch : Fin 5) (v : BitVec 4) :
    (s.setVolume ch v).events = s.events := rfl
@[simp] theorem State.setVolume_result (ch : Fin 5) (v : BitVec 4) :
    (s.setVolume ch v).result = s.result := rfl
@[simp] theorem State.setVolume_draws (ch : Fin 5) (v : BitVec 4) :
    (s.setVolume ch v).draws = s.draws := rfl
@[simp] theorem State.setVolume_psg (ch : Fin 5) (v : BitVec 4) : (s.setVolume ch v).psg = s.psg := rfl
@[simp] theorem State.setVolume_wt_wave (ch : Fin 5) (v : BitVec 4) :
    (s.setVolume ch v).wt.wave = s.wt.wave := rfl
@[simp] theorem State.setVolume_wt_period (ch : Fin 5) (v : BitVec 4) :
    (s.setVolume ch v).wt.period = s.wt.period := rfl
@[simp] theorem State.setVolume_wt_volume (ch : Fin 5) (v : BitVec 4) :
    (s.setVolume ch v).wt.volume = s.wt.volume.set ch v := rfl
@[simp] theorem State.setVolume_wt_mute (ch : Fin 5) (v : BitVec 4) :
    (s.setVolume ch v).wt.mute = s.wt.mute := rfl
@[simp] theorem State.setVolume_wt_limit (ch : Fin 5) (v : BitVec 4) :
    (s.setVolume ch v).wt.limit = s.wt.limit := rfl
@[simp] theorem State.setVolume_wt_count (ch : Fin 5) (v : BitVec 4) :
    (s.setVolume ch v).wt.count = s.wt.count := rfl
@[simp] theorem State.setVolume_wt_offset (ch : Fin 5) (v : BitVec 4) :
    (s.setVolume ch v).wt.offset = s.wt.offset := rfl

/-! `setMute` -/

@[simp] theorem State.setMute_cfg (m : BitVec 5) : (s.setMute m).cfg = s.cfg := rfl
@[simp] theorem State.setMute_clk (m : BitVec 5) : (s.setMute m).clk = s.clk := rfl
@[simp] theorem State.setMute_events (m : BitVec 5) : (s.setMute m).events = s.events := rfl
@[simp] theorem State.setMute_result (m : BitVec 5) : (s.setMute m).result = s.result := rfl
@[simp] theorem State.setMute_draws (m : BitVec 5) : (s.setMute m).draws = s.draws := rfl
@[simp] theorem State.setMute_psg (m : BitVec 5) : (s.setMute m).psg = s.psg := rfl
@[simp] theorem State.setMute_wt_wave (m : BitVec 5) : (s.setMute m).wt.wave = s.wt.wave := rfl
@[simp] theorem State.setMute_wt_period (m : BitVec 5) : (s.setMute m).wt.period = s.wt.period := rfl
@[simp] theorem State.setMute_wt_volume (m : BitVec 5) : (s.setMute m).wt.volume = s.wt.volume := rfl
@[simp] theorem State.setMute_wt_mute (m : BitVec 5) : (s.setMute m).wt.mute = m := rfl
@[simp] theorem State.setMute_wt_limit (m : BitVec 5) : (s.setMute m).wt.limit = s.wt.limit := rfl
@[simp] theorem State.setMute_wt_count (m : BitVec 5) : (s.setMute m).wt.count = s.wt.count := rfl
@[simp] theorem State.setMute_wt_offset (m : BitVec 5) : (s.setMute m).wt.offset = s.wt.offset := rfl

/-! `withNextEvent` -/

@[simp] theorem State.withNextEvent_cfg (w : EventWord) : (s.withNextEvent w).cfg = s.cfg := rfl
@[simp] theorem State.withNextEvent_clk (w : EventWord) : (s.withNextEvent w).clk = s.clk := rfl
@[simp] theorem State.withNextEvent_events (w : EventWord) :
    (s.withNextEvent w).events = w :: s.events.tail := rfl
@[simp] theorem State.withNextEvent_result (w : EventWord) : (s.withNextEvent w).result = s.result := rfl
@[simp] theorem State.withNextEvent_draws (w : EventWord) : (s.withNextEvent w).draws = s.draws := rfl
@[simp] theorem State.withNextEvent_psg (w : EventWord) : (s.withNextEvent w).psg = s.psg := rfl
@[simp] theorem State.withNextEvent_wt (w : EventWord) : (s.withNextEvent w).wt = s.wt := rfl

/-! `initialise` -/

@[simp] theorem State.initialise_cfg : s.initialise.cfg = s.cfg := rfl
@[simp] theorem State.initialise_clk : s.initialise.clk = .nominal := rfl
@[simp] theorem State.initialise_events : s.initialise.events = s.events := rfl
@[simp] theorem State.initialise_result : s.initialise.result = .none := rfl
@[simp] theorem State.initialise_draws : s.initialise.draws = s.draws := rfl
@[simp] theorem State.initialise_psg : s.initialise.psg = Psg.initial s.cfg := rfl
@[simp] theorem State.initialise_wt : s.initialise.wt = Wt.initial := rfl

/-! `advanceEngines` -/

@[simp] theorem State.advanceEngines_cfg : s.advanceEngines.cfg = s.cfg := rfl
@[simp] theorem State.advanceEngines_clk : s.advanceEngines.clk = s.clk := rfl
@[simp] theorem State.advanceEngines_events : s.advanceEngines.events = s.events := rfl
@[simp] theorem State.advanceEngines_result : s.advanceEngines.result = s.result := rfl
@[simp] theorem State.advanceEngines_draws : s.advanceEngines.draws = s.draws := rfl
@[simp] theorem State.advanceEngines_psg : s.advanceEngines.psg = s.psg.advance s.cfg s.clockStep := rfl
@[simp] theorem State.advanceEngines_wt : s.advanceEngines.wt = s.wt.advance s.clockStep := rfl

/-! The advances of the two engines. -/

section
variable (cfg : Configuration) (psg : Psg) (wt : Wt) (step : Nat)

@[simp] theorem Psg.advance_period :
    (psg.advance cfg step).period = psg.period := rfl
@[simp] theorem Psg.advance_level :
    (psg.advance cfg step).level = psg.level := rfl
@[simp] theorem Psg.advance_limit :
    (psg.advance cfg step).limit = psg.limit := rfl
@[simp] theorem Psg.advance_count :
    (psg.advance cfg step).count = Vector.ofFn fun c => (psg.toneAdvance step c).1 := rfl
@[simp] theorem Psg.advance_on :
    (psg.advance cfg step).on = Vector.ofFn fun c => flipPhase psg.on[c] (psg.toneAdvance step c).2 := rfl
@[simp] theorem Psg.advance_out :
    (psg.advance cfg step).out = psg.out := rfl
@[simp] theorem Psg.advance_mix :
    (psg.advance cfg step).mix = psg.mix := rfl
@[simp] theorem Psg.advance_np :
    (psg.advance cfg step).np = psg.np := rfl
@[simp] theorem Psg.advance_nlimit :
    (psg.advance cfg step).nlimit = psg.nlimit := rfl
@[simp] theorem Psg.advance_ncount :
    (psg.advance cfg step).ncount = (psg.noiseAdvance step).1 := rfl
@[simp] theorem Psg.advance_seed :
    (psg.advance cfg step).seed = lfsrAdvance cfg (psg.noiseAdvance step).2 psg.seed := rfl
@[simp] theorem Wt.advance_wave :
    (wt.advance step).wave = wt.wave := rfl
@[simp] theorem Wt.advance_period :
    (wt.advance step).period = wt.period := rfl
@[simp] theorem Wt.advance_volume :
    (wt.advance step).volume = wt.volume := rfl
@[simp] theorem Wt.advance_mute :
    (wt.advance step).mute = wt.mute := rfl
@[simp] theorem Wt.advance_limit :
    (wt.advance step).limit = wt.limit := rfl
@[simp] theorem Wt.advance_count :
    (wt.advance step).count = Vector.ofFn fun ch => (wt.channelAdvance step ch).1 := rfl
@[simp] theorem Wt.advance_offset :
    (wt.advance step).offset = Vector.ofFn fun ch =>
      wt.offset[ch] + BitVec.ofNat 5 (wt.channelAdvance step ch).2 := rfl

end

end Sys2Proof.Machine
end

