-- ==== Sys2Proof/Laws/Ops.lean ====
section
/-! SUPPORT. For each shared operation, one lemma that says all it can do; the bounds a well-formed configuration
gives; the exactness of the limits; what the bit-field operands are as numbers. -/

namespace Sys2Proof.Machine

/-! ### How an operation ends -/

theorem State.finish_next {s t : State} {r : OpResult} :
    s.finish r = .next t ↔ t = { s with result := r } := by
  constructor
  · intro h; injection h with h; exact h.symm
  · rintro rfl; rfl

theorem State.succeed_next {s t : State} : s.succeed = .next t ↔ t = { s with result := .ok } :=
  State.finish_next

theorem State.answer_next {s t : State} {b : Byte} :
    s.answer b = .next t ↔ t = { s with result := .byte b } :=
  State.finish_next

theorem State.raiseUnknownRegister_next {s t : State} {cs : ChipSelect} {reg : Byte} :
    s.raiseUnknownRegister cs reg = .next t ↔ t = { s with result := .unknownRegister cs reg } :=
  State.finish_next

theorem State.answerDraw_next {s t : State} :
    s.answerDraw = .next t ↔
      t = { s with result := .byte (Config.drawByte s.draws), draws := s.draws + 1 } := by
  constructor
  · intro h; injection h with h; exact h.symm
  · rintro rfl; rfl

theorem State.succeedIf_next {s t : State} {a : Bool} {cs : ChipSelect} {reg : Byte} :
    s.succeedIf a cs reg = .next t ↔
      t = { s with result := if a then .ok else .unknownRegister cs reg } :=
  State.finish_next

theorem State.answerDrawIf_next {s t : State} {a : Bool} {cs : ChipSelect} {reg : Byte} :
    s.answerDrawIf a cs reg = .next t ↔
      (a = true ∧ t = { s with result := .byte (Config.drawByte s.draws), draws := s.draws + 1 }) ∨
      (a = false ∧ t = { s with result := .unknownRegister cs reg }) := by
  cases a <;> simp [State.answerDrawIf, eq_comm]

/-! ### The event stream -/

theorem State.nextEvent_of_cons {s : State} {w : EventWord} {rest : List EventWord}
    (h : s.events = w :: rest) : s.nextEvent = some (w, { s with events := rest }) := by
  simp [State.nextEvent, h]

theorem State.nextEvent_of_nil {s : State} (h : s.events = []) : s.nextEvent = none := by
  simp [State.nextEvent, h]

/-- All that a step can do: idle on an empty stream, perform the decoded operation, or refuse the word. -/
theorem step_cases (s : State) :
    (s.events = [] ∧ step s = .next s) ∨
    (∃ w rest i, s.events = w :: rest ∧ decode w = .ok i ∧ step s = exec i { s with events := rest }) ∨
    (∃ w rest e, s.events = w :: rest ∧ decode w = .error e ∧ step s = .refused .reservedEventKind) := by
  cases h : s.events with
  | nil => exact .inl ⟨rfl, by simp [step, State.nextEvent_of_nil h]⟩
  | cons w rest =>
    cases hd : decode w with
    | ok i => exact .inr (.inl ⟨w, rest, i, rfl, hd, by simp [step, State.nextEvent_of_cons h, hd]⟩)
    | error e => exact .inr (.inr ⟨w, rest, e, rfl, hd, by simp [step, State.nextEvent_of_cons h, hd]⟩)

/-- A run whose first step goes on is the run from the state that step leaves. -/
theorem core_run_of_next {s u : State} (k : Nat) (h : step s = .next u) :
    Host.Core.run Sys2Proof.core (k + 1) s = Host.Core.run Sys2Proof.core k u := by
  have h' : Sys2Proof.core.step s = .next u := h
  simp only [Host.Core.run, h']

/-- A run whose first step is refused is refused. -/
theorem core_run_of_refused {s : State} {r : Refusal} (k : Nat) (h : step s = .refused r) :
    Host.Core.run Sys2Proof.core (k + 1) s = .refused r := by
  have h' : Sys2Proof.core.step s = .refused r := h
  simp only [Host.Core.run, h']

/-! ### The bounds of a well-formed configuration -/

theorem configuration_steps (cfg : Configuration) : 0 < cfg.stepNominal ∧ cfg.stepNominal < cfg.stepAlt := by
  have h := cfg.ok
  simp only [Params.wellFormed, Params.stepsOrdered, Bool.and_eq_true, decide_eq_true_eq] at h
  omega

theorem configuration_scales (cfg : Configuration) :
    0 < cfg.sampleRate ∧ 0 < cfg.noiseLimitScale ∧ 0 < cfg.wtLimitScale := by
  have h := cfg.ok
  simp only [Params.wellFormed, Params.scalesPositive, Bool.and_eq_true, decide_eq_true_eq] at h
  omega

theorem configuration_limits (cfg : Configuration) :
    4095 * 16 * cfg.sampleRate + cfg.stepAlt < 2 ^ 32 ∧
    31 * cfg.noiseLimitScale * cfg.sampleRate + cfg.stepAlt < 2 ^ 32 ∧
    4095 * cfg.wtLimitScale * cfg.sampleRate + cfg.stepAlt < 2 ^ 32 := by
  have h := cfg.ok
  simp only [Params.wellFormed, Params.limitsFit, Bool.and_eq_true, decide_eq_true_eq] at h
  exact ⟨h.1.1.1.2.1.1, h.1.1.1.2.1.2, h.1.1.1.2.2⟩

theorem configuration_seed (cfg : Configuration) : cfg.seedInit ≠ 0 := by
  have h := cfg.ok
  simp only [Params.wellFormed, Params.seedNonZero, Bool.and_eq_true, decide_eq_true_eq] at h
  exact h.1.2

theorem configuration_table (cfg : Configuration) (v : Fin 15) :
    (cfg.volumeEntry (BitVec.ofNat 4 v.val)).toNat ≤ (cfg.volumeEntry (BitVec.ofNat 4 (v.val + 1))).toNat := by
  have h := cfg.ok
  simp only [Params.wellFormed, Params.tableMonotone, Bool.and_eq_true, decide_eq_true_eq] at h
  exact h.1.1.2 v

/-- The step of a TICK is at most `STEP_ALT`, so the bounds of R5 (b) cover it. -/
theorem clockStep_le (s : State) : s.clockStep ≤ s.cfg.stepAlt := by
  have := configuration_steps s.cfg
  unfold State.clockStep
  split <;> omega

/-! ### The limits are exact -/

theorem toneLimit_toNat (cfg : Configuration) (p : Period) :
    (toneLimit cfg p).toNat = p.toNat * 16 * cfg.sampleRate := by
  have h := (configuration_limits cfg).1
  have hp : p.toNat * 16 * cfg.sampleRate ≤ 4095 * 16 * cfg.sampleRate :=
    Nat.mul_le_mul_right _ (by have := p.isLt; omega)
  rw [toneLimit, BitVec.toNat_ofNat]
  exact Nat.mod_eq_of_lt (by omega)

theorem noiseLimit_toNat (cfg : Configuration) (np : BitVec 5) :
    (noiseLimit cfg np).toNat = np.toNat * cfg.noiseLimitScale * cfg.sampleRate := by
  have h := (configuration_limits cfg).2.1
  have hp : np.toNat * cfg.noiseLimitScale * cfg.sampleRate ≤ 31 * cfg.noiseLimitScale * cfg.sampleRate :=
    Nat.mul_le_mul_right _ (Nat.mul_le_mul_right _ (by have := np.isLt; omega))
  rw [noiseLimit, BitVec.toNat_ofNat]
  exact Nat.mod_eq_of_lt (by omega)

theorem wtLimit_toNat (cfg : Configuration) (p : Period) :
    (wtLimit cfg p).toNat = p.toNat * cfg.wtLimitScale * cfg.sampleRate := by
  have h := (configuration_limits cfg).2.2
  have hp : p.toNat * cfg.wtLimitScale * cfg.sampleRate ≤ 4095 * cfg.wtLimitScale * cfg.sampleRate :=
    Nat.mul_le_mul_right _ (Nat.mul_le_mul_right _ (by have := p.isLt; omega))
  rw [wtLimit, BitVec.toNat_ofNat]
  exact Nat.mod_eq_of_lt (by omega)

/-! ### The bit-field operands as numbers -/

theorem periodWithLow_toNat (p : Period) (v : Byte) :
    (periodWithLow p v).toNat = p.toNat / 256 * 256 + v.toNat := by
  have := p.isLt
  have := v.isLt
  simp only [periodWithLow, BitVec.toNat_append, BitVec.extractLsb'_toNat]
  rw [← Nat.shiftLeft_add_eq_or_of_lt v.isLt]
  simp [Nat.shiftRight_eq_div_pow, Nat.shiftLeft_eq]
  omega

theorem periodWithHigh_toNat (p : Period) (v : Byte) :
    (periodWithHigh p v).toNat = v.toNat % 16 * 256 + p.toNat % 256 := by
  have h : (p.extractLsb' 0 8).toNat < 2 ^ 8 := (p.extractLsb' 0 8).isLt
  simp only [periodWithHigh, BitVec.toNat_append]
  rw [← Nat.shiftLeft_add_eq_or_of_lt h]
  simp [Nat.shiftLeft_eq]

/-- The low write is R80's own formula, `(period & 0xf00) | v`. -/
theorem periodWithLow_eq_mask (p : Period) (v : Byte) :
    periodWithLow p v = (p &&& 0xf00) ||| v.setWidth 12 := by
  apply BitVec.eq_of_getLsbD_eq
  intro i hi
  have h : (periodWithLow p v).getLsbD i = _ := BitVec.getLsbD_append (x := p.extractLsb' 8 4) (y := v)
  rw [h]
  interval_cases i <;> simp

/-- The high write is R81's own formula, `(period & 0x0ff) | ((v & 0x0f) << 8)`. -/
theorem periodWithHigh_eq_mask (p : Period) (v : Byte) :
    periodWithHigh p v = (p &&& 0x0ff) ||| ((v &&& 0x0f).setWidth 12 <<< 8) := by
  apply BitVec.eq_of_getLsbD_eq
  intro i hi
  have h : (periodWithHigh p v).getLsbD i = _ :=
    BitVec.getLsbD_append (x := v.extractLsb' 0 4) (y := p.extractLsb' 0 8)
  rw [h]
  interval_cases i <;> simp

theorem periodLow_toNat (p : Period) : (periodLow p).toNat = p.toNat % 256 := by
  simp [periodLow]

theorem periodHigh_toNat (p : Period) : (periodHigh p).toNat = p.toNat / 256 := by
  have := p.isLt
  simp [periodHigh, Nat.shiftRight_eq_div_pow]
  omega

theorem noisePeriodField_toNat (v : Byte) : (noisePeriodField v).toNat = v.toNat % 32 := by
  simp [noisePeriodField]

theorem mixField_toNat (v : Byte) : (mixField v).toNat = v.toNat % 64 := by
  simp [mixField]

theorem levelField_toNat (v : Byte) : (levelField v).toNat = v.toNat % 32 := by
  simp [levelField]

theorem levelVolume_toNat (l : BitVec 5) : (levelVolume l).toNat = l.toNat % 16 := by
  simp [levelVolume]

theorem volumeField_toNat (v : Byte) : (volumeField v).toNat = v.toNat % 16 := by
  simp [volumeField]

theorem muteField_toNat (v : Byte) : (muteField v).toNat = v.toNat % 32 := by
  simp [muteField]

theorem clockField_cases (v : Byte) :
    clockField v = if v.toNat = 0 then .nominal else .alternate := by
  simp [clockField, ← BitVec.toNat_inj]

theorem zeroExtend8_toNat {n : Nat} (h : n ≤ 8) (f : BitVec n) : (zeroExtend8 f).toNat = f.toNat := by
  have : f.toNat < 2 ^ 8 := Nat.lt_of_lt_of_le f.isLt (Nat.pow_le_pow_right (by decide) h)
  simpa [zeroExtend8] using this

/-! ### Per-channel registers -/

/-- A written channel reads back, and every other channel is as before. -/
theorem vector_set_get {α : Type} {n : Nat} (x : Vector α n) (c d : Fin n) (v : α) :
    (x.set c v)[d] = if d = c then v else x[d] := by
  simp only [Fin.getElem_fin, Vector.getElem_set, Fin.ext_iff, eq_comm]

/-! ### The waveform tables -/

/-- A written table entry reads back, and every other entry is as before. -/
theorem setWave_waveByte (s : State) (ch ch' : Fin 5) (i j : BitVec 5) (b : Byte) :
    (s.setWave ch i b).wt.waveByte ch' j = if ch' = ch ∧ j = i then b else s.wt.waveByte ch' j := by
  have hi := i.isLt
  have hj := j.isLt
  by_cases hc : ch' = ch
  · subst hc
    by_cases hij : j = i
    · subst hij; simp [State.setWave, Wt.waveByte]
    · have : i.toNat ≠ j.toNat := fun h => hij (BitVec.toNat_inj.mp h.symm)
      simp [State.setWave, Wt.waveByte, hij, this]
  · have : ch.val ≠ ch'.val := fun h => hc (Fin.ext h.symm)
    simp [State.setWave, Wt.waveByte, hc, this]

/-! ### The counter and limit advance (R110) -/

theorem oscAdvance_of_zero {count limit : Acc} (step : Nat) (h : limit.toNat = 0) :
    oscAdvance count limit step = (BitVec.ofNat 32 (count.toNat + step), 0) := by
  simp only [oscAdvance, h, if_true, Prod.mk.injEq, and_true]
  apply BitVec.eq_of_toNat_eq
  simp

theorem oscAdvance_of_pos {count limit : Acc} (step : Nat) (h : 0 < limit.toNat) :
    (oscAdvance count limit step).1.toNat = (count.toNat + step) % 2 ^ 32 % limit.toNat ∧
    (oscAdvance count limit step).2 = (count.toNat + step) % 2 ^ 32 / limit.toNat := by
  have hne : limit.toNat ≠ 0 := by omega
  have hlt : (count.toNat + step) % 2 ^ 32 % limit.toNat < 2 ^ 32 :=
    Nat.lt_trans (Nat.mod_lt _ h) limit.isLt
  simp only [oscAdvance, if_neg hne, BitVec.toNat_ofNat, and_true]
  exact Nat.mod_eq_of_lt hlt

/-! ### The meanings of TICK and RESET -/

theorem execTick_next {s t : State} :
    execTick s = .next t ↔
      t = { s.advanceEngines with result := .sample s.advanceEngines.outputWord } :=
  State.finish_next

theorem execReset_next {s t : State} :
    execReset s = .next t ↔ t = { s.initialise with result := .none } :=
  State.finish_next

end Sys2Proof.Machine
end

