-- ==== Sys2Proof/Laws/Forms.lean ====
section
/-! SUPPORT. The meaning of each form of one shape, by its channel number: one shared operation per form. -/

namespace Sys2Proof.Machine

theorem exec_psgwTpl (c : Fin 3) (v : Byte) (s : State) :
    exec (.psgwTpl c v) s = s.writeTonePeriodLow c v := by
  fin_cases c <;> rfl

theorem exec_psgwTph (c : Fin 3) (v : Byte) (s : State) :
    exec (.psgwTph c v) s = s.writeTonePeriodHigh c v := by
  fin_cases c <;> rfl

theorem exec_psgwLvl (c : Fin 3) (v : Byte) (s : State) :
    exec (.psgwLvl c v) s = s.writeLevel c v := by
  fin_cases c <;> rfl

theorem exec_psgwEnv (c : Fin 3) (v : Byte) (s : State) :
    exec (.psgwEnv c v) s = s.succeed := by
  fin_cases c <;> rfl

theorem exec_psgrTpl (c : Fin 3) (s : State) :
    exec (.psgrTpl c) s = s.readTonePeriodLow c := by
  fin_cases c <;> rfl

theorem exec_psgrTph (c : Fin 3) (s : State) :
    exec (.psgrTph c) s = s.readTonePeriodHigh c := by
  fin_cases c <;> rfl

theorem exec_psgrLvl (c : Fin 3) (s : State) :
    exec (.psgrLvl c) s = s.readLevel c := by
  fin_cases c <;> rfl

theorem exec_psgrEnv (c : Fin 3) (s : State) :
    exec (.psgrEnv c) s = s.answerDraw := by
  fin_cases c <;> rfl

theorem exec_wtwWave (c : Fin 5) (i : BitVec 5) (v : Byte) (s : State) :
    exec (.wtwWave c i v) s = s.writeWave c i v := by
  fin_cases c <;> rfl

theorem exec_wtwPerl (c : Fin 5) (v : Byte) (s : State) :
    exec (.wtwPerl c v) s = s.writeWtPeriodEven c v := by
  fin_cases c <;> rfl

theorem exec_wtwPerh (c : Fin 5) (v : Byte) (s : State) :
    exec (.wtwPerh c v) s = s.writeWtPeriodOdd c v := by
  fin_cases c <;> rfl

theorem exec_wtwVol (c : Fin 5) (v : Byte) (s : State) :
    exec (.wtwVol c v) s = s.writeVolume c v := by
  fin_cases c <;> rfl

theorem exec_wtrWave (c : Fin 5) (i : BitVec 5) (s : State) :
    exec (.wtrWave c i) s = s.readWave c i := by
  fin_cases c <;> rfl

theorem exec_wtrPerl (c : Fin 5) (s : State) :
    exec (.wtrPerl c) s = s.readWtPeriodEven c := by
  fin_cases c <;> rfl

theorem exec_wtrPerh (c : Fin 5) (s : State) :
    exec (.wtrPerh c) s = s.readWtPeriodOdd c := by
  fin_cases c <;> rfl

theorem exec_wtrVol (c : Fin 5) (s : State) :
    exec (.wtrVol c) s = s.readVolume c := by
  fin_cases c <;> rfl

theorem exec_psgwIo (c : Fin 2) (v : Byte) (s : State) :
    exec (.psgwIo c v) s = s.succeedIf s.cfg.psgIoRegsAccepted .psg (BitVec.ofNat 8 (0x0e + c.val)) := by
  fin_cases c <;> rfl

theorem exec_psgrIo (c : Fin 2) (s : State) :
    exec (.psgrIo c) s = s.answerDrawIf s.cfg.psgIoRegsAccepted .psg (BitVec.ofNat 8 (0x0e + c.val)) := by
  fin_cases c <;> rfl

end Sys2Proof.Machine
end

