-- ==== Sys2Proof/Laws/PerInstr.lean ====
section
/-! SUPPORT. Facts made per operation, one lemma per constructor of Instr. -/

namespace Sys2Proof.Laws

/-- The canonical word of an operation has every ignored field zero (R61): making it canonical again changes
nothing. The reserved form is no operation, its word has no canonical form (R62). -/
def CanonicalEncoding.Statement (i : Instr) : Prop :=
  i.wellFormed = true → Event.canonical (encode i) = encode i

theorem canonical_psgW (g v : Byte) : Event.canonical (Event.psgW g v) = Event.psgW g v := by
  simp [Event.canonical, Event.psgW]

theorem canonical_psgR (g : Byte) : Event.canonical (Event.psgR g) = Event.psgR g := by
  simp [Event.canonical, Event.psgR]

theorem canonical_wtW (g v : Byte) : Event.canonical (Event.wtW g v) = Event.wtW g v := by
  simp [Event.canonical, Event.wtW]

theorem canonical_wtR (g : Byte) : Event.canonical (Event.wtR g) = Event.wtR g := by
  simp [Event.canonical, Event.wtR]

namespace CanonicalEncoding

theorem psgwTpl0 (v : Byte) : Statement (.psgwTpl0 v) := fun _ => canonical_psgW _ _
theorem psgwTpl1 (v : Byte) : Statement (.psgwTpl1 v) := fun _ => canonical_psgW _ _
theorem psgwTpl2 (v : Byte) : Statement (.psgwTpl2 v) := fun _ => canonical_psgW _ _
theorem psgwTph0 (v : Byte) : Statement (.psgwTph0 v) := fun _ => canonical_psgW _ _
theorem psgwTph1 (v : Byte) : Statement (.psgwTph1 v) := fun _ => canonical_psgW _ _
theorem psgwTph2 (v : Byte) : Statement (.psgwTph2 v) := fun _ => canonical_psgW _ _
theorem psgwNp (v : Byte) : Statement (.psgwNp v) := fun _ => canonical_psgW _ _
theorem psgwMix (v : Byte) : Statement (.psgwMix v) := fun _ => canonical_psgW _ _
theorem psgwLvl0 (v : Byte) : Statement (.psgwLvl0 v) := fun _ => canonical_psgW _ _
theorem psgwLvl1 (v : Byte) : Statement (.psgwLvl1 v) := fun _ => canonical_psgW _ _
theorem psgwLvl2 (v : Byte) : Statement (.psgwLvl2 v) := fun _ => canonical_psgW _ _
theorem psgwEnv0 (v : Byte) : Statement (.psgwEnv0 v) := fun _ => canonical_psgW _ _
theorem psgwEnv1 (v : Byte) : Statement (.psgwEnv1 v) := fun _ => canonical_psgW _ _
theorem psgwEnv2 (v : Byte) : Statement (.psgwEnv2 v) := fun _ => canonical_psgW _ _
theorem psgwR0e (v : Byte) : Statement (.psgwR0e v) := fun _ => canonical_psgW _ _
theorem psgwR0f (v : Byte) : Statement (.psgwR0f v) := fun _ => canonical_psgW _ _
theorem psgwUnk (reg : Byte) (v : Byte) : Statement (.psgwUnk reg v) := fun _ => canonical_psgW _ _
theorem psgwClk (v : Byte) : Statement (.psgwClk v) := fun _ => canonical_psgW _ _
theorem psgrTpl0 : Statement .psgrTpl0 := fun _ => canonical_psgR _
theorem psgrTpl1 : Statement .psgrTpl1 := fun _ => canonical_psgR _
theorem psgrTpl2 : Statement .psgrTpl2 := fun _ => canonical_psgR _
theorem psgrTph0 : Statement .psgrTph0 := fun _ => canonical_psgR _
theorem psgrTph1 : Statement .psgrTph1 := fun _ => canonical_psgR _
theorem psgrTph2 : Statement .psgrTph2 := fun _ => canonical_psgR _
theorem psgrNp : Statement .psgrNp := fun _ => canonical_psgR _
theorem psgrMix : Statement .psgrMix := fun _ => canonical_psgR _
theorem psgrLvl0 : Statement .psgrLvl0 := fun _ => canonical_psgR _
theorem psgrLvl1 : Statement .psgrLvl1 := fun _ => canonical_psgR _
theorem psgrLvl2 : Statement .psgrLvl2 := fun _ => canonical_psgR _
theorem psgrEnv0 : Statement .psgrEnv0 := fun _ => canonical_psgR _
theorem psgrEnv1 : Statement .psgrEnv1 := fun _ => canonical_psgR _
theorem psgrEnv2 : Statement .psgrEnv2 := fun _ => canonical_psgR _
theorem psgrR0e : Statement .psgrR0e := fun _ => canonical_psgR _
theorem psgrR0f : Statement .psgrR0f := fun _ => canonical_psgR _
theorem psgrUnk (reg : Byte) : Statement (.psgrUnk reg) := fun _ => canonical_psgR _
theorem psgrVmin : Statement .psgrVmin := fun _ => canonical_psgR _
theorem psgrVmaj : Statement .psgrVmaj := fun _ => canonical_psgR _
theorem wtwWave0 (i : BitVec 5) (v : Byte) : Statement (.wtwWave0 i v) := fun _ => canonical_wtW _ _
theorem wtwWave1 (i : BitVec 5) (v : Byte) : Statement (.wtwWave1 i v) := fun _ => canonical_wtW _ _
theorem wtwWave2 (i : BitVec 5) (v : Byte) : Statement (.wtwWave2 i v) := fun _ => canonical_wtW _ _
theorem wtwWave3 (i : BitVec 5) (v : Byte) : Statement (.wtwWave3 i v) := fun _ => canonical_wtW _ _
theorem wtwWave4 (i : BitVec 5) (v : Byte) : Statement (.wtwWave4 i v) := fun _ => canonical_wtW _ _
theorem wtwPerl0 (v : Byte) : Statement (.wtwPerl0 v) := fun _ => canonical_wtW _ _
theorem wtwPerl1 (v : Byte) : Statement (.wtwPerl1 v) := fun _ => canonical_wtW _ _
theorem wtwPerl2 (v : Byte) : Statement (.wtwPerl2 v) := fun _ => canonical_wtW _ _
theorem wtwPerl3 (v : Byte) : Statement (.wtwPerl3 v) := fun _ => canonical_wtW _ _
theorem wtwPerl4 (v : Byte) : Statement (.wtwPerl4 v) := fun _ => canonical_wtW _ _
theorem wtwPerh0 (v : Byte) : Statement (.wtwPerh0 v) := fun _ => canonical_wtW _ _
theorem wtwPerh1 (v : Byte) : Statement (.wtwPerh1 v) := fun _ => canonical_wtW _ _
theorem wtwPerh2 (v : Byte) : Statement (.wtwPerh2 v) := fun _ => canonical_wtW _ _
theorem wtwPerh3 (v : Byte) : Statement (.wtwPerh3 v) := fun _ => canonical_wtW _ _
theorem wtwPerh4 (v : Byte) : Statement (.wtwPerh4 v) := fun _ => canonical_wtW _ _
theorem wtwVol0 (v : Byte) : Statement (.wtwVol0 v) := fun _ => canonical_wtW _ _
theorem wtwVol1 (v : Byte) : Statement (.wtwVol1 v) := fun _ => canonical_wtW _ _
theorem wtwVol2 (v : Byte) : Statement (.wtwVol2 v) := fun _ => canonical_wtW _ _
theorem wtwVol3 (v : Byte) : Statement (.wtwVol3 v) := fun _ => canonical_wtW _ _
theorem wtwVol4 (v : Byte) : Statement (.wtwVol4 v) := fun _ => canonical_wtW _ _
theorem wtwMute (v : Byte) : Statement (.wtwMute v) := fun _ => canonical_wtW _ _
theorem wtwHigh (reg : Byte) (v : Byte) : Statement (.wtwHigh reg v) := fun _ => canonical_wtW _ _
theorem wtrWave0 (i : BitVec 5) : Statement (.wtrWave0 i) := fun _ => canonical_wtR _
theorem wtrWave1 (i : BitVec 5) : Statement (.wtrWave1 i) := fun _ => canonical_wtR _
theorem wtrWave2 (i : BitVec 5) : Statement (.wtrWave2 i) := fun _ => canonical_wtR _
theorem wtrWave3 (i : BitVec 5) : Statement (.wtrWave3 i) := fun _ => canonical_wtR _
theorem wtrWave4 (i : BitVec 5) : Statement (.wtrWave4 i) := fun _ => canonical_wtR _
theorem wtrPerl0 : Statement .wtrPerl0 := fun _ => canonical_wtR _
theorem wtrPerl1 : Statement .wtrPerl1 := fun _ => canonical_wtR _
theorem wtrPerl2 : Statement .wtrPerl2 := fun _ => canonical_wtR _
theorem wtrPerl3 : Statement .wtrPerl3 := fun _ => canonical_wtR _
theorem wtrPerl4 : Statement .wtrPerl4 := fun _ => canonical_wtR _
theorem wtrPerh0 : Statement .wtrPerh0 := fun _ => canonical_wtR _
theorem wtrPerh1 : Statement .wtrPerh1 := fun _ => canonical_wtR _
theorem wtrPerh2 : Statement .wtrPerh2 := fun _ => canonical_wtR _
theorem wtrPerh3 : Statement .wtrPerh3 := fun _ => canonical_wtR _
theorem wtrPerh4 : Statement .wtrPerh4 := fun _ => canonical_wtR _
theorem wtrVol0 : Statement .wtrVol0 := fun _ => canonical_wtR _
theorem wtrVol1 : Statement .wtrVol1 := fun _ => canonical_wtR _
theorem wtrVol2 : Statement .wtrVol2 := fun _ => canonical_wtR _
theorem wtrVol3 : Statement .wtrVol3 := fun _ => canonical_wtR _
theorem wtrVol4 : Statement .wtrVol4 := fun _ => canonical_wtR _
theorem wtrMute : Statement .wtrMute := fun _ => canonical_wtR _
theorem wtrHigh (reg : Byte) : Statement (.wtrHigh reg) := fun _ => canonical_wtR _
theorem tick : Statement .tick := fun _ => by decide
theorem reset : Statement .reset := fun _ => by decide
theorem rsvd (payload : BitVec 18) : Statement (.rsvd payload) := fun h => nomatch h

end CanonicalEncoding

end Sys2Proof.Laws
end

