-- ==== Sys2Proof/Tests/Slice0.lean ====
section
/-! SUPPORT. The model's own tests: the ill-formed terms and configurations that the checks refuse, a word written
out bit by bit for every operation, one-step tests whose expected values are those of spec/95_test_vectors.md (or
hand calculation from the rule named), and a witness of the hypotheses of every statement that has some. -/

open Sys2Proof Sys2Proof.Machine

namespace Sys2Proof.Tests

/-! ### Helpers -/

/-- `CFG_REF` of 95_test_vectors.md section 0. -/
def cfgRef : Configuration := {}

/-- `CFG_TEST` of 95_test_vectors.md section 0. -/
def cfgTest : Configuration := { sampleRate := 1, stepNominal := 16, stepAlt := 24 }

/-- `CFG_TEST` with `WT_HIGH_ACCEPT = {0xe0, 0xff}`, `PSG_IO_REGS_ACCEPTED`, and the other choices changed. -/
def cfgOther : Configuration :=
  { sampleRate := 1, stepNominal := 16, stepAlt := 24, mixSetMeans := .disable, combine := .chipOr,
    lfsrForce := .always, psgIoRegsAccepted := true, wtPeriodSelect := .upstreamLiteral .low,
    wtHighAccept := [0xe0, 0xff], blend := .wtOnly }

/-- `CFG_TEST` with both addresses of a WT period pair reaching the high half. -/
def cfgHigh : Configuration :=
  { sampleRate := 1, stepNominal := 16, stepAlt := 24, wtPeriodSelect := .upstreamLiteral .high }

/-- What holds of the next state; false of a fault or a refusal. -/
def nextIs (o : Host.Outcome State Fault Refusal) (p : State → Bool) : Bool :=
  match o with
  | .next t => p t
  | .fault _ => false
  | .refused _ => false

/-- A state after reset with three different tone periods, five different WT periods and a table entry. -/
def base (cfg : Configuration) : State :=
  { State.resetWith cfg with
    psg := { Psg.initial cfg with period := #v[0x100, 0x0fe, 0xabc], np := 0x15, mix := 0x2a
                                  level := #v[0x1f, 0x02, 0x13] }
    wt := { Wt.initial with period := #v[0x123, 0x456, 0x234, 0x789, 0x034], volume := #v[1, 2, 3, 4, 5]
                            mute := 0x15, wave := Wt.initial.wave.set 2 (Vector.replicate 32 0x90) } }

/-- `CFG_TEST` with tone 0 of period 3 at count 40, noise of period 1, and channel 4 of the wavetable engine of
period 2 at count 31: consistent, and every kind of generator expires at the next TICK (95_test_vectors.md 2.4). -/
def running : State :=
  { State.resetWith cfgTest with
    psg := { Psg.initial cfgTest with
      period := #v[3, 0, 1], limit := #v[48, 0, 16], count := #v[40, 5, 0], level := #v[15, 0, 3]
      out := #v[240, 0, 12], mix := 0x09, np := 1, nlimit := 16, seed := 0x00002 }
    wt := { Wt.initial with
      period := #v[0, 0, 0, 0, 2], limit := #v[0, 0, 0, 0, 32], count := #v[7, 0, 0, 0, 31]
      volume := #v[0, 0, 0, 0, 10], offset := #v[0, 0, 0, 0, 31]
      wave := Wt.initial.wave.set 4 ((Vector.replicate 32 0).set 0 0x90) }
    events := [Event.tick, Event.psgR 0x10] }

theorem running_consistent : running.Consistent :=
  ⟨by decide, by decide, by decide, by decide, by decide⟩

/-! ### Well-formedness: one ill-formed term for each check -/

theorem test_unknown_write_below_block : (Instr.psgwUnk 0x0f 0).wellFormed = false := by decide
theorem test_unknown_write_above_block : (Instr.psgwUnk 0xff 0).wellFormed = false := by decide
theorem test_unknown_read_below_block : (Instr.psgrUnk 0x0f).wellFormed = false := by decide
theorem test_unknown_read_above_block : (Instr.psgrUnk 0xfe).wellFormed = false := by decide
theorem test_high_write_below_block : (Instr.wtwHigh 0xaf 0).wellFormed = false := by decide
theorem test_high_read_below_block : (Instr.wtrHigh 0xaf).wellFormed = false := by decide
theorem test_reserved_kind_ill_formed : (Instr.rsvd 0).wellFormed = false := by decide

theorem test_steps_equal_refused :
    Configuration.accept { stepNominal := 24, stepAlt := 24 } = none := by decide
theorem test_step_zero_refused :
    Params.stepsOrdered { stepNominal := 0 } = false := by decide
theorem test_rate_zero_refused : Configuration.accept { sampleRate := 0 } = none := by decide
theorem test_scales_zero_refused :
    Params.scalesPositive { noiseLimitScale := 0 } = false ∧
    Params.scalesPositive { wtLimitScale := 0 } = false := by decide
theorem test_tone_limit_overflow_refused : Configuration.accept { sampleRate := 65536 } = none := by decide
theorem test_noise_limit_overflow_refused : Configuration.accept { noiseLimitScale := 3000 } = none := by decide
theorem test_wt_limit_overflow_refused : Configuration.accept { wtLimitScale := 32 } = none := by decide
theorem test_decreasing_table_refused :
    Configuration.accept { volumeTable := (Vector.replicate 32 0).set 1 1 } = none := by decide
theorem test_seed_zero_refused : Configuration.accept { seedInit := 0 } = none := by decide
theorem test_accept_below_block_refused : Configuration.accept { wtHighAccept := [0xaf] } = none := by decide
theorem test_reference_accepted : Configuration.accept {} = some cfgRef := by decide

/-! ### Decoding: a word of every operation, its fields kind, cs, rw, reg, value written out (R61, R65) -/

theorem test_decode_psg_tone_writes :
    [0b00_0_0_00000000_10100000,
      0b00_0_0_00000001_10100001,
      0b00_0_0_00000010_10100010,
      0b00_0_0_00000011_10100011,
      0b00_0_0_00000100_10100100,
      0b00_0_0_00000101_10100101].map (decodeTableWord 24) =
    [.psgwTpl0 0xa0,
      .psgwTph0 0xa1,
      .psgwTpl1 0xa2,
      .psgwTph1 0xa3,
      .psgwTpl2 0xa4,
      .psgwTph2 0xa5].map some := by decide

theorem test_decode_psg_other_writes :
    [0b00_0_0_00000110_11100011,
      0b00_0_0_00000111_11111000,
      0b00_0_0_00001000_00011111,
      0b00_0_0_00001001_00011110,
      0b00_0_0_00001010_00011101,
      0b00_0_0_00001011_00000000,
      0b00_0_0_00001100_00000001,
      0b00_0_0_00001101_00000010,
      0b00_0_0_00001110_11111111,
      0b00_0_0_00001111_00000001].map (decodeTableWord 24) =
    [.psgwNp 0xe3,
      .psgwMix 0xf8,
      .psgwLvl0 0x1f,
      .psgwLvl1 0x1e,
      .psgwLvl2 0x1d,
      .psgwEnv0 0,
      .psgwEnv1 1,
      .psgwEnv2 2,
      .psgwR0e 0xff,
      .psgwR0f 1].map some := by decide

theorem test_decode_psg_high_writes :
    [0b00_0_0_00010000_01010101,
      0b00_0_0_01111111_00000000,
      0b00_0_0_11111101_00000000,
      0b00_0_0_11111110_00000000,
      0b00_0_0_11111111_10000000].map (decodeTableWord 24) =
    [.psgwUnk 0x10 0x55,
      .psgwUnk 0x7f 0,
      .psgwUnk 0xfd 0,
      .psgwUnk 0xfe 0,
      .psgwClk 0x80].map some := by decide

theorem test_decode_psg_reads :
    [0b00_0_1_00000000_00000000,
      0b00_0_1_00000001_00000000,
      0b00_0_1_00000010_00000000,
      0b00_0_1_00000011_00000000,
      0b00_0_1_00000100_00000000,
      0b00_0_1_00000101_00000000,
      0b00_0_1_00000110_00000000,
      0b00_0_1_00000111_00000000,
      0b00_0_1_00001000_00000000,
      0b00_0_1_00001001_00000000,
      0b00_0_1_00001010_00000000,
      0b00_0_1_00001011_00000000,
      0b00_0_1_00001100_00000000,
      0b00_0_1_00001101_00000000,
      0b00_0_1_00001110_00000000,
      0b00_0_1_00001111_00000000].map (decodeTableWord 24) =
    [.psgrTpl0,
      .psgrTph0,
      .psgrTpl1,
      .psgrTph1,
      .psgrTpl2,
      .psgrTph2,
      .psgrNp,
      .psgrMix,
      .psgrLvl0,
      .psgrLvl1,
      .psgrLvl2,
      .psgrEnv0,
      .psgrEnv1,
      .psgrEnv2,
      .psgrR0e,
      .psgrR0f].map some := by decide

theorem test_decode_psg_high_reads :
    [0b00_0_1_00010000_00000000,
      0b00_0_1_11111101_10011001,
      0b00_0_1_11111110_00000000,
      0b00_0_1_11111111_11111111].map (decodeTableWord 24) =
    [.psgrUnk 0x10,
      .psgrUnk 0xfd,
      .psgrVmin,
      .psgrVmaj].map some := by decide

theorem test_decode_wt_wave_writes :
    [0b00_1_0_00000000_01111111,
      0b00_1_0_00111111_10000000,
      0b00_1_0_01000011_10010000,
      0b00_1_0_01111111_11111111,
      0b00_1_0_10011111_10000000].map (decodeTableWord 24) =
    [.wtwWave0 0 0x7f,
      .wtwWave1 31 0x80,
      .wtwWave2 3 0x90,
      .wtwWave3 31 0xff,
      .wtwWave4 31 0x80].map some := by decide

theorem test_decode_wt_period_writes :
    [0b00_1_0_10100000_00100000,
      0b00_1_0_10100001_00100001,
      0b00_1_0_10100010_00100010,
      0b00_1_0_10100011_00100011,
      0b00_1_0_10100100_00100100,
      0b00_1_0_10100101_00100101,
      0b00_1_0_10100110_00100110,
      0b00_1_0_10100111_00100111,
      0b00_1_0_10101000_00101000,
      0b00_1_0_10101001_00101001].map (decodeTableWord 24) =
    [.wtwPerl0 0x20,
      .wtwPerh0 0x21,
      .wtwPerl1 0x22,
      .wtwPerh1 0x23,
      .wtwPerl2 0x24,
      .wtwPerh2 0x25,
      .wtwPerl3 0x26,
      .wtwPerh3 0x27,
      .wtwPerl4 0x28,
      .wtwPerh4 0x29].map some := by decide

theorem test_decode_wt_other_writes :
    [0b00_1_0_10101010_00110000,
      0b00_1_0_10101011_00110001,
      0b00_1_0_10101100_00110010,
      0b00_1_0_10101101_00110011,
      0b00_1_0_10101110_00110100,
      0b00_1_0_10101111_11111110,
      0b00_1_0_10110000_00000001,
      0b00_1_0_11111111_00100000].map (decodeTableWord 24) =
    [.wtwVol0 0x30,
      .wtwVol1 0x31,
      .wtwVol2 0x32,
      .wtwVol3 0x33,
      .wtwVol4 0x34,
      .wtwMute 0xfe,
      .wtwHigh 0xb0 1,
      .wtwHigh 0xff 0x20].map some := by decide

theorem test_decode_wt_wave_reads :
    [0b00_1_1_00000000_00000000,
      0b00_1_1_00111111_00000000,
      0b00_1_1_01000011_00000000,
      0b00_1_1_01111111_00000000,
      0b00_1_1_10011111_00000000].map (decodeTableWord 24) =
    [.wtrWave0 0,
      .wtrWave1 31,
      .wtrWave2 3,
      .wtrWave3 31,
      .wtrWave4 31].map some := by decide

theorem test_decode_wt_other_reads :
    [0b00_1_1_10100000_00000000,
      0b00_1_1_10100001_00000000,
      0b00_1_1_10100010_00000000,
      0b00_1_1_10100011_00000000,
      0b00_1_1_10100100_00000000,
      0b00_1_1_10100101_00000000,
      0b00_1_1_10100110_00000000,
      0b00_1_1_10100111_00000000,
      0b00_1_1_10101000_00000000,
      0b00_1_1_10101001_00000000,
      0b00_1_1_10101010_00000000,
      0b00_1_1_10101011_00000000,
      0b00_1_1_10101100_00000000,
      0b00_1_1_10101101_00000000,
      0b00_1_1_10101110_00000000,
      0b00_1_1_10101111_00000000,
      0b00_1_1_10110000_00000000,
      0b00_1_1_11111111_00000000].map (decodeTableWord 24) =
    [.wtrPerl0,
      .wtrPerh0,
      .wtrPerl1,
      .wtrPerh1,
      .wtrPerl2,
      .wtrPerh2,
      .wtrPerl3,
      .wtrPerh3,
      .wtrPerl4,
      .wtrPerh4,
      .wtrVol0,
      .wtrVol1,
      .wtrVol2,
      .wtrVol3,
      .wtrVol4,
      .wtrMute,
      .wtrHigh 0xb0,
      .wtrHigh 0xff].map some := by decide

theorem test_decode_tick_and_reset :
    [0b01_0_0_00000000_00000000,
      0b01_1_1_11111111_11111111,
      0b10_0_0_00000000_00000000,
      0b10_1_1_11111111_11111111].map (decodeTableWord 24) =
    [.tick,
      .tick,
      .reset,
      .reset].map some := by decide

theorem test_reserved_kind_refused_by_name :
    decode 0b11_0_0_00000000_00000000 = .error .reservedKind := by rfl
theorem test_encode_of_reserved_kind : encode (.rsvd 5) = 0b11_0_0_00000000_00000101 := by decide
theorem test_number_of_21_bits_is_no_word :
    decodeTableWord 24 0x100000 = none ∧ decodeTableWord 24 0xfffff = none := by decide

/-! ### PSG register writes (95_test_vectors.md section 2.1, CFG_REF) -/

theorem test_tone_low_0 : nextIs (exec (.psgwTpl0 0xfe) (base cfgRef)) fun t =>
    t.psg.period == #v[0x1fe, 0x0fe, 0xabc] && t.psg.limit[0] == 382500000 := by decide
theorem test_tone_low_1 : nextIs (exec (.psgwTpl1 0x01) (base cfgRef)) fun t =>
    t.psg.period == #v[0x100, 0x001, 0xabc] && t.psg.limit == #v[0, 750000, 0] := by decide
theorem test_tone_low_2 : nextIs (exec (.psgwTpl2 0x00) (base cfgRef)) fun t =>
    t.psg.period == #v[0x100, 0x0fe, 0xa00] := by decide
theorem test_tone_high_0 : nextIs (exec (.psgwTph0 0xff) (base cfgRef)) fun t =>
    t.psg.period == #v[0xf00, 0x0fe, 0xabc] := by decide
theorem test_tone_high_1 : nextIs (exec (.psgwTph1 0xf1) (base cfgRef)) fun t =>
    t.psg.period == #v[0x100, 0x1fe, 0xabc] && t.psg.limit[1] == 382500000 := by decide
theorem test_tone_high_2 : nextIs (exec (.psgwTph2 0x00) (base cfgRef)) fun t =>
    t.psg.period == #v[0x100, 0x0fe, 0x0bc] && t.psg.limit[2] == 141000000 := by decide
theorem test_noise_period : nextIs (exec (.psgwNp 0xe3) (base cfgRef)) fun t =>
    t.psg.np == 3 && t.psg.nlimit == 2250000 := by decide
theorem test_mixer : nextIs (exec (.psgwMix 0xf8) (base cfgRef)) fun t => t.psg.mix == 0x38 := by decide
theorem test_level_0 : nextIs (exec (.psgwLvl0 0x0a) (base cfgRef)) fun t =>
    t.psg.level == #v[10, 0x02, 0x13] && t.psg.out[0] == 110 := by decide
theorem test_level_1 : nextIs (exec (.psgwLvl1 0x0f) (base cfgRef)) fun t =>
    t.psg.level == #v[0x1f, 15, 0x13] && t.psg.out[1] == 240 := by decide
theorem test_level_2 : nextIs (exec (.psgwLvl2 0xe0) (base cfgRef)) fun t =>
    t.psg.level == #v[0x1f, 0x02, 0] && t.psg.out[2] == 0 := by decide
theorem test_envelope_writes : [Instr.psgwEnv0 0x12, .psgwEnv1 0x34, .psgwEnv2 0x0e].all fun i =>
    nextIs (exec i (base cfgRef)) fun t => t == { base cfgRef with result := .ok } := by decide
theorem test_io_write_refused_address : nextIs (exec (.psgwR0e 0xff) (base cfgRef)) fun t =>
    t == { base cfgRef with result := .unknownRegister .psg 0x0e } := by decide
theorem test_io_write_accepted_address : nextIs (exec (.psgwR0f 0) (base cfgOther)) fun t =>
    t == { base cfgOther with result := .ok } := by decide
theorem test_unknown_write : nextIs (exec (.psgwUnk 0x10 0x55) (base cfgRef)) fun t =>
    t == { base cfgRef with result := .unknownRegister .psg 0x10 } := by decide
theorem test_unknown_write_fe_keeps_clk :
    nextIs (exec (.psgwUnk 0xfe 0) { base cfgRef with clk := .alternate }) fun t =>
    t.clk == .alternate && t.result == .unknownRegister .psg 0xfe := by decide
theorem test_clock_alternate : nextIs (exec (.psgwClk 0x80) (base cfgRef)) fun t => t.clk == .alternate := by decide
theorem test_clock_nominal : nextIs (exec (.psgwClk 0) { base cfgRef with clk := .alternate }) fun t =>
    t.clk == .nominal := by decide

/-! ### PSG register reads (95_test_vectors.md section 2.2; the bytes follow R101 and R102) -/

theorem test_tone_reads : ([Instr.psgrTpl0, .psgrTpl1, .psgrTpl2, .psgrTph0, .psgrTph1, .psgrTph2].zip
    [0x00, 0xfe, 0xbc, 0x01, 0x00, 0x0a]).all fun p =>
    nextIs (exec p.1 (base cfgRef)) fun t => t == { base cfgRef with result := .byte p.2 } := by decide
theorem test_other_reads : ([Instr.psgrNp, .psgrMix, .psgrLvl0, .psgrLvl1, .psgrLvl2, .psgrVmin, .psgrVmaj].zip
    [0x15, 0x2a, 0x1f, 0x02, 0x13, 0x01, 0x01]).all fun p =>
    nextIs (exec p.1 (base cfgRef)) fun t => t == { base cfgRef with result := .byte p.2 } := by decide
theorem test_stateless_reads_draw : [Instr.psgrEnv0, .psgrEnv1, .psgrEnv2, .psgrR0e, .psgrR0f].all fun i =>
    nextIs (exec i (base cfgOther)) fun t => t.draws == 1 && t.psg == (base cfgOther).psg := by decide
theorem test_io_reads_refused_address : ([Instr.psgrR0e, .psgrR0f].zip [0x0e, 0x0f]).all fun p =>
    nextIs (exec p.1 (base cfgRef)) fun t => t == { base cfgRef with result := .unknownRegister .psg p.2 } := by decide
theorem test_unknown_read : nextIs (exec (.psgrUnk 0xfd) (base cfgRef)) fun t =>
    t == { base cfgRef with result := .unknownRegister .psg 0xfd } := by decide

/-! ### WT register writes and reads (95_test_vectors.md section 2.3, CFG_REF) -/

theorem test_wave_writes : ([Instr.wtwWave0 0 0x7f, .wtwWave1 31 0x80, .wtwWave2 3 0x11, .wtwWave3 31 0xff,
    .wtwWave4 31 0x80].zip [((0 : Fin 5), (0 : BitVec 5), (127 : Int)), (1, 31, -128), (2, 3, 17), (3, 31, -1),
    (4, 31, -128)]).all fun p => nextIs (exec p.1 (base cfgRef)) fun t =>
      signedByte (t.wt.waveByte p.2.1 p.2.2.1) == p.2.2.2 && t.wt.waveByte 2 4 == 0x90 := by decide
theorem test_wt_period_low : ([Instr.wtwPerl0 0x20, .wtwPerl1 0, .wtwPerl2 0, .wtwPerl3 0xff, .wtwPerl4 1].zip
    [#v[0x120, 0x456, 0x234, 0x789, 0x034], #v[0x123, 0x400, 0x234, 0x789, 0x034],
      #v[0x123, 0x456, 0x200, 0x789, 0x034], #v[0x123, 0x456, 0x234, 0x7ff, 0x034],
      #v[0x123, 0x456, 0x234, 0x789, 0x001]]).all fun p =>
    nextIs (exec p.1 (base cfgRef)) fun t => t.wt.period == p.2 := by decide
theorem test_wt_period_high : ([Instr.wtwPerh0 0xf0, .wtwPerh1 1, .wtwPerh2 0, .wtwPerh3 0xff, .wtwPerh4 0x12].zip
    [#v[0x023, 0x456, 0x234, 0x789, 0x034], #v[0x123, 0x156, 0x234, 0x789, 0x034],
      #v[0x123, 0x456, 0x034, 0x789, 0x034], #v[0x123, 0x456, 0x234, 0xf89, 0x034],
      #v[0x123, 0x456, 0x234, 0x789, 0x234]]).all fun p =>
    nextIs (exec p.1 (base cfgRef)) fun t => t.wt.period == p.2 := by decide
theorem test_wt_limits : nextIs (exec (.wtwPerh4 0x12) (base cfgRef)) (fun t => t.wt.limit[4] == 423000000) ∧
    nextIs (exec (.wtwPerl2 0x00) (base cfgRef)) (fun t => t.wt.limit == #v[0, 0, 384000000, 0, 0]) := by decide
theorem test_wt_period_literal : nextIs (exec (.wtwPerh1 0x7f) (base cfgOther)) (fun t =>
      t.wt.period[1] == 0x47f) ∧
    nextIs (exec (.wtwPerl1 0x7f) (base cfgHigh)) (fun t => t.wt.period[1] == 0xf56) := by decide
theorem test_volume_writes : ([Instr.wtwVol0 0x3f, .wtwVol1 0x3f, .wtwVol2 0x3f, .wtwVol3 0x3f, .wtwVol4 0x3f].zip
    [#v[15, 2, 3, 4, 5], #v[1, 15, 3, 4, 5], #v[1, 2, 15, 4, 5], #v[1, 2, 3, 15, 5], #v[1, 2, 3, 4, 15]]).all fun p =>
    nextIs (exec p.1 (base cfgRef)) fun t => t.wt.volume == p.2 := by decide
theorem test_mute_write : nextIs (exec (.wtwMute 0xfe) (base cfgRef)) fun t => t.wt.mute == 0x1e := by decide
theorem test_high_write_refused_address : nextIs (exec (.wtwHigh 0xb0 1) (base cfgRef)) fun t =>
    t == { base cfgRef with result := .unknownRegister .wt 0xb0 } := by decide
theorem test_high_write_accepted_address : nextIs (exec (.wtwHigh 0xe0 0x20) (base cfgOther)) fun t =>
    t == { base cfgOther with result := .ok } := by decide
theorem test_wave_reads : ([Instr.wtrWave0 3, .wtrWave1 3, .wtrWave2 3, .wtrWave3 3, .wtrWave4 3].zip
    [0, 0, 0x90, 0, 0]).all fun p =>
    nextIs (exec p.1 (base cfgRef)) fun t => t == { base cfgRef with result := .byte p.2 } := by decide
theorem test_wt_period_reads : ([Instr.wtrPerl0, .wtrPerl1, .wtrPerl2, .wtrPerl3, .wtrPerl4, .wtrPerh0, .wtrPerh1,
    .wtrPerh2, .wtrPerh3, .wtrPerh4].zip [0x23, 0x56, 0x34, 0x89, 0x34, 0x01, 0x04, 0x02, 0x07, 0x00]).all fun p =>
    nextIs (exec p.1 (base cfgRef)) fun t => t.result == .byte p.2 := by decide
theorem test_volume_and_mute_reads : ([Instr.wtrVol0, .wtrVol1, .wtrVol2, .wtrVol3, .wtrVol4, .wtrMute].zip
    [1, 2, 3, 4, 5, 0x15]).all fun p =>
    nextIs (exec p.1 (base cfgRef)) fun t => t == { base cfgRef with result := .byte p.2 } := by decide
theorem test_high_reads : nextIs (exec (.wtrHigh 0xff) (base cfgRef)) (fun t =>
      t == { base cfgRef with result := .unknownRegister .wt 0xff }) ∧
    nextIs (exec (.wtrHigh 0xff) (base cfgOther)) (fun t => t.draws == 1) := by decide

/-! ### TICK and RESET (95_test_vectors.md sections 2.4 to 2.8) -/

theorem test_osc_advance : [oscAdvance 40 48 16, oscAdvance 0 16 16, oscAdvance 15 16 24, oscAdvance 100 48 16,
      oscAdvance 5 0 16, oscAdvance 0xfffffff8 0 16, oscAdvance 0xfffffff8 16 24, oscAdvance 0 750000 3579545,
      oscAdvance 3071249999 3071250000 4000000] =
    [(8, 1), (0, 1), (7, 2), (20, 2), (21, 0), (8, 0), (0, 1), (579545, 4), (3999999, 1)] := by decide
theorem test_lfsr_if_zero : [0x10000, 0x00001, 0x00008, 0x00009, 0x15555, 0x1ffff].map (lfsrNext .ifZero 0x10000) =
    [0x08000, 0x10000, 0x10004, 0x00004, 0x1aaaa, 0x0ffff] := by decide
theorem test_lfsr_always : [0x10000, 0x00001, 0x00008, 0x1ffff].map (lfsrNext .always 0x10000) =
    [0x18000, 0x10000, 0x10004, 0x1ffff] := by decide
theorem test_lfsr_other_tap : [0x00001, 0x00008, 0x12000].map (lfsrNext .ifZero 0x12000) =
    [0x12000, 0x12004, 0x09000] := by decide
theorem test_combination : [combineChannel .gateAnd true true false true 240,
      combineChannel .replace true true false true 240, combineChannel .chipOr true true false true 240,
      combineChannel .gateAnd true false true false 240, combineChannel .replace false true true true 240,
      combineChannel .chipOr false true false true 240, combineChannel .chipOr false false false false 240] =
    [0, 240, 0, 240, 0, 240, 240] := by decide
theorem test_blend : [blendWord .psgOnly 340 (-485), blendWord .wtOnly 340 (-485), blendWord .both 340 (-485),
      blendWord .both 1 (-1), blendWord .both 765 9525, blendWord .both 0 (-9600), blendWord .wtOnly 765 9525] =
    [340, 32283, 16311, 16383, 21528, 11584, 42293] := by decide
/-- Tone 0 expires once (40, 48, 16: 8), noise takes 2 to 1, channel 4 of the wavetable steps to offset 0 and plays
-112 * 10; the noise bit is 1, so the tone's 240 is heard: 120 + (32768 - 1120) / 2 (R110 to R115, R151, R162). -/
theorem test_tick : nextIs (exec .tick running) fun t =>
    t.psg.count == #v[8, 21, 0] && t.psg.on == #v[true, false, true] && t.psg.ncount == 0 &&
    t.psg.seed == 1 && t.wt.count == #v[23, 16, 16, 16, 15] && t.wt.offset == #v[0, 0, 0, 0, 0] &&
    t.result == .sample 15944 := by decide
theorem test_tick_alternate : nextIs (exec .tick { running with clk := .alternate }) fun t =>
    t.psg.count == #v[16, 29, 8] && t.wt.count == #v[31, 24, 24, 24, 23] := by decide
theorem test_reset : nextIs (exec .reset { running with clk := .alternate, draws := 3 }) fun t =>
    t == { State.resetWith cfgTest with events := running.events, draws := 3 } := by decide
theorem test_reserved : exec (.rsvd 0) running = .refused .reservedEventKind := by rfl
theorem test_step_on_first_word_after_reset :
    step (State.reset.withFetchWord 24 0x3af00) =
      .next { State.reset with result := .byte 0 } := by rfl

/-! ### Witnesses: states and operands that meet all the hypotheses of a statement, at the edges of its clauses -/

theorem witness_EncodedOperationDecodesToItself :
    [Instr.psgwUnk 0x10 0, .psgwUnk 0xfe 1, .psgrUnk 0x10, .psgrUnk 0xfd, .wtwHigh 0xb0 2, .wtrHigh 0xff,
      .wtwWave4 31 0x80, .tick, .reset].all Instr.wellFormed = true := by decide
theorem witness_DecodedWordEncodesToItsCanonicalWord :
    decode 0x1fd99 = .ok (.psgrUnk 0xfd) ∧ decode 0x7ffff = .ok .tick ∧ decode 0x0fe01 = .ok (.psgwUnk 0xfe 1) :=
  ⟨rfl, rfl, rfl⟩
theorem witness_DecodingFailsExactlyOnTheReservedKind :
    Event.kind 0xc0000 = 3 ∧ Event.kind 0xbffff ≠ 3 ∧ 2 ^ 20 ≤ 0x100000 := by decide
theorem witness_DecodingAgreesWithTheOpcodeTable :
    decode 0x0fe01 = .ok (.psgwUnk 0xfe 1) ∧ Event.kind 0xfffff = 3 := ⟨rfl, by decide⟩
/-- Addresses at both ends of each clause; the clauses of the write of one space exclude each other. -/
theorem witness_AddressOperandsFollowTheFormulas :
    ((0x00 : Byte).toNat < 6 ∧ (0x00 : Byte).toNat / 2 = (0 : Fin 3).val) ∧
    ((0x05 : Byte).toNat < 6 ∧ (0x05 : Byte).toNat / 2 = (2 : Fin 3).val) ∧
    (8 ≤ (0x08 : Byte).toNat ∧ (0x08 : Byte).toNat - 8 = (0 : Fin 3).val) ∧
    (8 ≤ (0x0a : Byte).toNat ∧ (0x0a : Byte).toNat - 8 = (2 : Fin 3).val) ∧
    ((0x00 : Byte).toNat / 32 = (0 : Fin 5).val ∧ (0x00 : Byte).toNat % 32 = (0 : BitVec 5).toNat) ∧
    ((0x9f : Byte).toNat / 32 = (4 : Fin 5).val ∧ (0x9f : Byte).toNat % 32 = (31 : BitVec 5).toNat) ∧
    (0xa0 ≤ (0xa0 : Byte).toNat ∧ ((0xa0 : Byte).toNat - 0xa0) / 2 = (0 : Fin 5).val) ∧
    (0xa0 ≤ (0xa9 : Byte).toNat ∧ ((0xa9 : Byte).toNat - 0xa0) / 2 = (4 : Fin 5).val) ∧
    (0xaa ≤ (0xaa : Byte).toNat ∧ (0xaa : Byte).toNat - 0xaa = (0 : Fin 5).val) ∧
    (0xaa ≤ (0xae : Byte).toNat ∧ (0xae : Byte).toNat - 0xaa = (4 : Fin 5).val) := by decide
theorem witness_StepPerformsTheNextDecodedOperation :
    (running.events = Event.tick :: [Event.psgR 0x10] ∧ decode Event.tick = .ok .tick) ∧
    (base cfgRef).events = [] := ⟨⟨rfl, rfl⟩, rfl⟩
theorem witness_ReservedKindIsRefused :
    { running with events := [0xc0000, Event.tick] }.events = 0xc0000 :: [Event.tick] ∧
    Event.kind 0xc0000 = 3 := ⟨rfl, by decide⟩
theorem witness_StepKeepsConfigurationAndTakesOneEvent :
    ∃ t, step { running with events := [Event.psgR 0x0b] } = .next t ∧ t.draws = running.draws + 1 := ⟨_, rfl, rfl⟩
theorem witness_NoStreamOfOperationsIsEverStopped : AllOperations running.events := by
  intro w hw; simp only [running, List.mem_cons, List.not_mem_nil, or_false] at hw
  rcases hw with rfl | rfl <;> decide
theorem witness_StepKeepsCachesAndSeedConsistent :
    running.Consistent ∧ ∃ t, step running = .next t := ⟨running_consistent, _, rfl⟩
theorem witness_UpstreamLiteralLeavesTheOtherHalfZero :
    (∃ s t, step s = .next t ∧ s.cfg.wtPeriodSelect = .upstreamLiteral .low ∧
      ∀ ch : Fin 5, (s.wt.period[ch]).toNat / 256 = 0) ∧
    (∃ s t, step s = .next t ∧ s.cfg.wtPeriodSelect = .upstreamLiteral .high ∧
      ∀ ch : Fin 5, (s.wt.period[ch]).toNat % 256 = 0) :=
  ⟨⟨{ State.resetWith cfgOther with events := [Event.wtW 0xa1 0xff] }, _, rfl, rfl, by decide⟩,
    ⟨{ State.resetWith cfgHigh with events := [Event.wtW 0xa0 0xff] }, _, rfl, rfl, by decide⟩⟩
theorem witness_OnlyTickAndResetChangeTheGenerators :
    ∃ t, exec (.psgwTpl0 1) running = .next t ∧ Instr.psgwTpl0 1 ≠ .tick ∧ Instr.psgwTpl0 1 ≠ .reset :=
  ⟨_, rfl, by decide, by decide⟩
/-- One write that changes each register that a clause names. -/
theorem witness_HostRegistersChangeOnlyByTheirOwnWrite :
    (nextIs (exec (.psgwTph 1 2) running) fun t => t.psg.period[1] != running.psg.period[1]) ∧
    (nextIs (exec (.psgwLvl 1 2) running) fun t => t.psg.level[1] != running.psg.level[1]) ∧
    (nextIs (exec (.psgwNp 2) running) fun t => t.psg.np != running.psg.np) ∧
    (nextIs (exec (.psgwMix 2) running) fun t => t.psg.mix != running.psg.mix) ∧
    (nextIs (exec (.psgwClk 2) running) fun t => t.clk != running.clk) ∧
    (nextIs (exec (.wtwWave 4 0 2) running) fun t => t.wt.waveByte 4 0 != running.wt.waveByte 4 0) ∧
    (nextIs (exec (.wtwPerl 4 3) running) fun t => t.wt.period[4] != running.wt.period[4]) ∧
    (nextIs (exec (.wtwVol 4 3) running) fun t => t.wt.volume[4] != running.wt.volume[4]) ∧
    (nextIs (exec (.wtwMute 3) running) fun t => t.wt.mute != running.wt.mute) := by decide
theorem witness_ReadsChangeNoHardwareState :
    (IsRead 0x1ff00 ∧ decode 0x1ff00 = .ok .psgrVmaj) ∧ (IsRead 0x3ff00 ∧ decode 0x3ff00 = .ok (.wtrHigh 0xff)) :=
  ⟨⟨⟨by decide, by decide⟩, rfl⟩, ⟨⟨by decide, by decide⟩, rfl⟩⟩
theorem witness_TickDoesNotChangeWhatAReadReturns :
    IsRead 0x10000 ∧ decode 0x10000 = .ok .psgrTpl0 ∧ ∃ t, exec .tick running = .next t :=
  ⟨⟨by decide, by decide⟩, rfl, _, rfl⟩
/-- Operations of every row of the table of R181 at the edges of its ranges, and neighbours that do not fail. -/
theorem witness_UnknownRegisterRaisedExactlyByTheTable :
    ([0x01000, 0x0fd00, 0x0fe00, 0x00e00, 0x00f00, 0x11000, 0x1fd00, 0x10e00, 0x10f00, 0x2b000, 0x2ffff, 0x3b000,
      0x3ff00].all fun w => match decode w with
        | .ok i => nextIs (exec i running) fun t =>
            decide (t.result = .unknownRegister (chipSelect (Event.cs w)) (Event.reg w))
        | .error _ => false) = true ∧
    ([0x00d00, 0x0ff00, 0x10d00, 0x1fe00, 0x2af00, 0x3af00, 0x40000, 0x80000].all fun w => match decode w with
        | .ok i => nextIs (exec i running) fun t =>
            decide (t.result ≠ .unknownRegister (chipSelect (Event.cs w)) (Event.reg w))
        | .error _ => false) = true := by decide
theorem witness_FailedOperationLeavesNoTrace :
    ∃ t, decode 0x01055 = .ok (.psgwUnk 0x10 0x55) ∧
      exec (.psgwUnk 0x10 0x55) { running with events := [Event.tick] } = .next t ∧
      t.result = .unknownRegister .psg 0x10 ∧ [Event.tick] ≠ [] := ⟨_, rfl, rfl, rfl, by decide⟩
theorem witness_ToneLowWriteSetsPeriodAndLimit :
    ∃ t u, exec (.psgwTpl 0 0) running = .next t ∧ exec .tick t = .next u ∧ (1 : Fin 3) ≠ 0 :=
  ⟨_, _, rfl, rfl, by decide⟩
theorem witness_ToneHighWriteSetsPeriodAndLimit :
    ∃ t u, exec (.psgwTph 2 0xff) running = .next t ∧ exec .tick t = .next u ∧ (1 : Fin 3) ≠ 2 :=
  ⟨_, _, rfl, rfl, by decide⟩
theorem witness_LevelWriteSetsLevelAndCachedOutput :
    (0x10 : Byte).toNat % 16 ≤ (0x0f : Byte).toNat % 16 ∧
    ∃ t t' u, exec (.psgwLvl 1 0x10) running = .next t ∧ exec (.psgwLvl 1 0x0f) running = .next t' ∧
      exec .tick t = .next u := ⟨by decide, _, _, _, rfl, rfl, rfl⟩
theorem witness_IoRegisterWritesFollowTheParameter :
    (base cfgOther).cfg.psgIoRegsAccepted = true ∧ (base cfgRef).cfg.psgIoRegsAccepted = false := ⟨rfl, rfl⟩
theorem witness_UnknownPsgWritesFail :
    (0x10 ≤ (0x10 : Byte).toNat ∧ (0x10 : Byte).toNat ≤ 0xfd) ∧
    (0x10 ≤ (0xfd : Byte).toNat ∧ (0xfd : Byte).toNat ≤ 0xfd) ∧
    ∃ t, exec (.psgwUnk 0xfd 0) running = .next t := ⟨by decide, by decide, _, rfl⟩
/-- One period write of each form, and a TICK after the write of the selector. -/
theorem witness_ClockWriteSelectsTheStep :
    (IsPeriodWrite (.psgwTpl 0 7) ∧ IsPeriodWrite (.psgwTph 2 0xff) ∧ IsPeriodWrite (.psgwNp 0x1f) ∧
      IsPeriodWrite (.wtwPerl 0 7) ∧ IsPeriodWrite (.wtwPerh 4 0xff)) ∧
    ∃ t u, exec (.psgwClk 0x80) running = .next t ∧ exec .tick t = .next u :=
  ⟨⟨.inl ⟨0, 7, .inl rfl⟩, .inl ⟨2, 0xff, .inr rfl⟩, .inr (.inl ⟨0x1f, rfl⟩), .inr (.inr ⟨0, 7, .inl rfl⟩),
    .inr (.inr ⟨4, 0xff, .inr rfl⟩)⟩, _, _, rfl, rfl⟩
theorem witness_StatelessPsgReadsDrawAByte :
    (base cfgOther).cfg.psgIoRegsAccepted = true ∧ (base cfgRef).cfg.psgIoRegsAccepted = false := ⟨rfl, rfl⟩
theorem witness_UnknownPsgReadsFail :
    (0x10 ≤ (0x10 : Byte).toNat ∧ (0x10 : Byte).toNat ≤ 0xfd) ∧
    (0x10 ≤ (0xfd : Byte).toNat ∧ (0xfd : Byte).toNat ≤ 0xfd) := by decide
theorem witness_WaveWriteSetsOneTableEntry :
    ((4 : Fin 5) ≠ 3 ∨ (31 : BitVec 5) ≠ 31) ∧ ((3 : Fin 5) ≠ 3 ∨ (0 : BitVec 5) ≠ 31) := by decide
theorem witness_WtPeriodWritesSetPeriodAndLimit :
    running.cfg.wtPeriodSelect = .evenLowOddHigh ∧ (1 : Fin 5) ≠ 4 := by decide
theorem witness_UpstreamLiteralPairIsOneRegister :
    (base cfgOther).cfg.wtPeriodSelect = .upstreamLiteral .low ∧
    (base cfgHigh).cfg.wtPeriodSelect = .upstreamLiteral .high := ⟨rfl, rfl⟩
theorem witness_VolumeWriteSetsTheVolume :
    (∃ t, exec (.wtwVol 4 0x0f) running = .next t ∧ t.wt.mute.getLsbD (4 : Fin 5).val = false) ∧
    (0xf0 : Byte).toNat % 16 = 0 := ⟨⟨_, rfl, by decide⟩, by decide⟩
theorem witness_MuteWriteMutesTheMarkedChannels :
    (0xfe : Byte).getLsbD (4 : Fin 5).val = true ∧ (0xfe : Byte).getLsbD (0 : Fin 5).val = false ∧
    ∃ t a b, exec (.wtwMute 0xfe) running = .next t ∧ exec .tick running = .next a ∧ exec .tick t = .next b :=
  ⟨by decide, by decide, _, _, _, rfl, rfl, rfl⟩
theorem witness_HighWtAccessesFollowTheParameter :
    (0xb0 ≤ (0xb0 : Byte).toNat ∧ (0xb0 : Byte) ∉ (base cfgOther).cfg.wtHighAccept) ∧
    (0xb0 ≤ (0xff : Byte).toNat ∧ (0xff : Byte) ∈ (base cfgOther).cfg.wtHighAccept) := by decide
theorem witness_WtPeriodReadsReturnTheSelectedHalves :
    (base cfgRef).cfg.wtPeriodSelect = .evenLowOddHigh ∧
    (base cfgOther).cfg.wtPeriodSelect = .upstreamLiteral .low ∧
    (base cfgHigh).cfg.wtPeriodSelect = .upstreamLiteral .high := ⟨rfl, rfl, rfl⟩
theorem witness_TickRunsTheSourceLoopOnEveryGenerator :
    (16 : Nat) = (if running.clk = .nominal then running.cfg.stepNominal else running.cfg.stepAlt) ∧
    2 ^ 32 ≤ 2 ^ 32 := by decide
/-- `running` under each of the three blends. -/
theorem witness_TickOutputIsTheExactBlend :
    (∃ t, exec .tick running = .next t ∧ running.cfg.blend = .both) ∧
    (∃ t, exec .tick (base cfgOther) = .next t ∧ (base cfgOther).cfg.blend = .wtOnly) ∧
    (∃ t, exec .tick (base { blend := .psgOnly }) = .next t ∧
      (base { blend := .psgOnly }).cfg.blend = .psgOnly) := ⟨⟨_, rfl, rfl⟩, ⟨_, rfl, rfl⟩, ⟨_, rfl, rfl⟩⟩
theorem witness_CountsAreBelowNonZeroLimitsAfterTick :
    nextIs (exec .tick running) fun t => decide (0 < (t.psg.limit[0]).toNat) && decide (0 < t.psg.nlimit.toNat) &&
      decide (0 < (t.wt.limit[4]).toNat) := by decide
theorem witness_ExpiriesOfOneAdvanceAreBounded :
    (0 < (16 : Acc).toNat ∧ (15 : Acc).toNat < (16 : Acc).toNat) ∧ running.Consistent ∧
    (running.psg.count[0]).toNat < (running.psg.limit[0]).toNat ∧
    running.psg.ncount.toNat < running.psg.nlimit.toNat ∧
    (running.wt.count[4]).toNat < (running.wt.limit[4]).toNat :=
  ⟨by decide, running_consistent, by decide, by decide, by decide⟩
/-- In `running` some generators of each kind stand still and others advance; the noise limit is 0 in `base`. -/
theorem witness_ZeroLimitFreezesThePhaseOnly :
    (∃ t, exec .tick running = .next t) ∧
    ((running.psg.limit[1]).toNat = 0 ∧ 0 < (running.psg.limit[0]).toNat) ∧ 0 < running.psg.nlimit.toNat ∧
    ((∃ t, exec .tick (base cfgTest) = .next t) ∧ (base cfgTest).psg.nlimit.toNat = 0) ∧
    ((running.wt.limit[0]).toNat = 0 ∧ 0 < (running.wt.limit[4]).toNat) :=
  ⟨⟨_, rfl⟩, by decide, by decide, ⟨⟨_, rfl⟩, by decide⟩, by decide⟩
theorem witness_DisabledChannelsGiveTheSilentWord :
    ∃ s : State, s.cfg.combine ≠ .chipOr ∧
      (∀ c : Fin 3, toneEnabled s.cfg s.psg c = false ∧ noiseEnabled s.cfg s.psg c = false) ∧
      (∀ ch : Fin 5, s.wt.mute.getLsbD ch.val = true) ∧ s.psg.out = running.psg.out :=
  ⟨(running.setMix 0).setMute 0x1f, by decide, by decide, by decide, rfl⟩
/-- The next TICK of `running` brings channel 4 to offset 0: a write of entry 0 is heard, one of entry 1 is not. -/
theorem witness_WaveWriteIsHeardByTheNextTick :
    nextIs (exec .tick (running.setWave 4 0 0x7f)) fun u =>
      u.wt.offset[4] == 0 && u.wt.offset[4] != 1 && u.wt.mute.getLsbD 4 == false := by decide
theorem witness_EngineStateIsIndependentOfTheBlend :
    ∃ s s' : State, s'.cfg.toParams = { s.cfg.toParams with blend := .psgOnly } ∧ s' = { s with cfg := s'.cfg } ∧
      ∃ t, exec .tick s = .next t :=
  ⟨running, { running with cfg := { cfgTest with blend := .psgOnly, ok := by decide } }, rfl, rfl, _, rfl⟩
theorem witness_ReferenceNoiseHasTheFullPeriod : (0x10000 : Seed) ≠ 0 ∧ (1 : Seed) ≠ 0 := by decide
theorem witness_ResetStateUnderTicksOnlyCounts :
    0 < 1 ∧ cfgTest.combine ≠ .chipOr ∧ cfgTest.mixSetMeans = .enable := by decide

end Sys2Proof.Tests
end

section
/-! The PSG registers (40_psg_registers.md): what the decoder makes of their addresses, the operations with no
register behind them, the tone period pair, and the level with its volume table entry. -/

/-! ### The PSG addresses and the forms they decode to (R65, R86, R100) -/

namespace Sys2Proof

theorem decode_psgW_toneLow (c : Fin 3) (v : Byte) :
    decode (Event.psgW (BitVec.ofNat 8 (2 * c.val)) v) = .ok (.psgwTpl c v) := by
  rw [decode_psgW]
  fin_cases c <;> rfl

theorem decode_psgW_toneHigh (c : Fin 3) (v : Byte) :
    decode (Event.psgW (BitVec.ofNat 8 (2 * c.val + 1)) v) = .ok (.psgwTph c v) := by
  rw [decode_psgW]
  fin_cases c <;> rfl

theorem decode_psgW_level (c : Fin 3) (v : Byte) :
    decode (Event.psgW (BitVec.ofNat 8 (8 + c.val)) v) = .ok (.psgwLvl c v) := by
  rw [decode_psgW]
  fin_cases c <;> rfl

theorem decode_psgW_envelope (c : Fin 3) (v : Byte) :
    decode (Event.psgW (BitVec.ofNat 8 (0x0b + c.val)) v) = .ok (.psgwEnv c v) := by
  rw [decode_psgW]
  fin_cases c <;> rfl

/-- No address of 0x10..0xfe is a PSG register that can be written; 0xff is the clock selector. -/
theorem decodePsgWrite_unknown {reg : Byte} (v : Byte) (hlo : 0x10 ≤ reg.toNat) (hhi : reg.toNat ≤ 0xfe) :
    decodePsgWrite reg v = .psgwUnk reg v := by
  unfold decodePsgWrite
  split
  case h_18 => rfl
  all_goals omega

/-- No address of 0x10..0xfd is a PSG register that can be read; 0xfe and 0xff are the version. -/
theorem decodePsgRead_unknown {reg : Byte} (hlo : 0x10 ≤ reg.toNat) (hhi : reg.toNat ≤ 0xfd) :
    decodePsgRead reg = .psgrUnk reg := by
  unfold decodePsgRead
  split
  case h_19 => rfl
  all_goals omega

/-- The volume table does not decrease over the whole range of a volume: R5 (c) from one entry to the next. -/
theorem Configuration.volumeEntry_mono (cfg : Configuration) {v w : BitVec 4} (h : v.toNat ≤ w.toNat) :
    (cfg.volumeEntry v).toNat ≤ (cfg.volumeEntry w).toNat := by
  have hmono : Monotone fun x : Fin 16 => (cfg.volumeEntry (BitVec.ofNat 4 x.val)).toNat :=
    Fin.monotone_iff_le_succ.mpr (Machine.configuration_table cfg)
  simpa using hmono (show v.toFin ≤ w.toFin from h)

end Sys2Proof

namespace Sys2Proof.Machine

variable {s t u : State}

/-! ### Operations that no register answers, and the fixed ones -/

theorem exec_psgwUnk (reg v : Byte) (s : State) :
    exec (.psgwUnk reg v) s = s.raiseUnknownRegister .psg reg := rfl

theorem exec_psgrUnk (reg : Byte) (s : State) :
    exec (.psgrUnk reg) s = s.raiseUnknownRegister .psg reg := rfl

theorem exec_psgrVmin (s : State) : exec .psgrVmin s = s.answer versionMinor := rfl

theorem exec_psgrVmaj (s : State) : exec .psgrVmaj s = s.answer versionMajor := rfl

/-- No operation reads the result of the one before it (R185). -/
theorem exec_withResult (i : Instr) (s : State) (r : OpResult) : exec i { s with result := r } = exec i s := by
  cases i <;> rfl

/-- Settles O28: the address selects no register, and the failure leaves nothing but its own result. -/
theorem unknownPsgWritesFail : Obligations.UnknownPsgWritesFail := by
  intro reg v s hlo hhi
  refine ⟨?_, ?_, fun i t hfail => ?_⟩
  · rw [decode_psgW, decodePsgWrite_unknown v hlo (by omega)]
  · rw [exec_psgwUnk, State.raiseUnknownRegister_next]
  · rw [exec_psgwUnk, State.raiseUnknownRegister_next] at hfail
    rw [hfail, exec_withResult]

/-- Settles O35: the address selects no register, and the failure leaves nothing but its own result. -/
theorem unknownPsgReadsFail : Obligations.UnknownPsgReadsFail := by
  intro reg s hlo hhi
  refine ⟨?_, ?_⟩
  · rw [decode_psgR, decodePsgRead_unknown hlo hhi]
  · rw [exec_psgrUnk, State.raiseUnknownRegister_next]

/-- Settles O26: the three envelope writes are one bare success. -/
theorem envelopeWritesHaveNoEffect : Obligations.EnvelopeWritesHaveNoEffect := by
  intro c v s
  refine ⟨decode_psgW_envelope c v, ?_⟩
  rw [exec_psgwEnv, State.succeed_next]

/-- Settles O33: both reads answer a constant of the model. -/
theorem versionReadsReturnOne : Obligations.VersionReadsReturnOne := by
  intro s
  refine ⟨?_, ?_, ?_, ?_⟩
  · rw [decode_psgR]; rfl
  · rw [decode_psgR]; rfl
  · rw [exec_psgrVmin, State.answer_next]; rfl
  · rw [exec_psgrVmaj, State.answer_next]; rfl

/-! ### What a TICK does to the tone oscillators -/

theorem exec_tick_next :
    exec .tick s = .next u ↔ u = { s.advanceEngines with result := .sample s.advanceEngines.outputWord } :=
  execTick_next

/-- A TICK advances each tone oscillator from its own count, limit and phase, by the step of the clock (R111). -/
theorem exec_tick_tone (h : exec .tick s = .next u) (c : Fin 3) :
    u.psg.count[c] = (oscAdvance s.psg.count[c] s.psg.limit[c] s.clockStep).1 ∧
    u.psg.on[c] = flipPhase s.psg.on[c] (oscAdvance s.psg.count[c] s.psg.limit[c] s.clockStep).2 := by
  rw [exec_tick_next] at h
  subst h
  simp [Psg.toneAdvance]

/-- TICK leaves the cached outputs alone (R16). -/
theorem exec_tick_out (h : exec .tick s = .next u) : u.psg.out = s.psg.out := by
  rw [exec_tick_next] at h
  subst h
  rfl

/-! ### The tone period (R80, R81) -/

/-- `t` is `s` after a successful write that leaves period `p` in tone channel `c`: the limit follows exactly, the
next TICK goes on from the count and the phase of `s` against it, and nothing else differs. -/
structure TonePeriodWritten (c : Fin 3) (p : Period) (s t : State) : Prop where
  result : t.result = .ok
  period : t.psg.period[c] = p
  limit : (t.psg.limit[c]).toNat = p.toNat * 16 * s.cfg.sampleRate
  others : ∀ d : Fin 3, d ≠ c → t.psg.period[d] = s.psg.period[d] ∧ t.psg.limit[d] = s.psg.limit[d]
  nextTick : ∀ u, exec .tick t = .next u →
    u.psg.count[c] = (oscAdvance s.psg.count[c] t.psg.limit[c] s.clockStep).1 ∧
    u.psg.on[c] = flipPhase s.psg.on[c] (oscAdvance s.psg.count[c] t.psg.limit[c] s.clockStep).2
  frame : t = { s with psg := { s.psg with period := t.psg.period, limit := t.psg.limit }, result := .ok }

/-- The one store behind both halves of a tone period. -/
theorem setTonePeriod_written (c : Fin 3) (p : Period) (s : State) :
    TonePeriodWritten c p s { s.setTonePeriod c p with result := .ok } where
  result := rfl
  period := by simp
  limit := by simp [toneLimit_toNat]
  others d hd := by
    simp only [State.setTonePeriod_psg_period, State.setTonePeriod_psg_limit, vector_set_get, if_neg hd, and_self]
  nextTick _ h := exec_tick_tone h c
  frame := rfl

theorem exec_psgwTpl_written (c : Fin 3) (v : Byte) (s : State) :
    ∃ t, exec (.psgwTpl c v) s = .next t ∧ TonePeriodWritten c (periodWithLow s.psg.period[c] v) s t :=
  ⟨_, exec_psgwTpl c v s, setTonePeriod_written c _ s⟩

theorem exec_psgwTph_written (c : Fin 3) (v : Byte) (s : State) :
    ∃ t, exec (.psgwTph c v) s = .next t ∧ TonePeriodWritten c (periodWithHigh s.psg.period[c] v) s t :=
  ⟨_, exec_psgwTph c v s, setTonePeriod_written c _ s⟩

/-- The two bytes of `PSG.TONE` (R73), written low then high, leave nothing of the period that was there. -/
theorem periodWithHigh_periodWithLow (q p : Period) :
    periodWithHigh (periodWithLow q (Pseudo.lowByte p)) (Pseudo.highByte p) = p := by
  apply BitVec.eq_of_toNat_eq
  have hlow : (Pseudo.lowByte p).toNat = p.toNat % 256 := periodLow_toNat p
  have hhigh : (Pseudo.highByte p).toNat = p.toNat / 256 := periodHigh_toNat p
  have := p.isLt
  rw [periodWithHigh_toNat, periodWithLow_toNat, hlow, hhigh]
  omega

/-- Settles O20: the low half of the store of a tone period, in R80's own mask formula. -/
theorem toneLowWriteSetsPeriodAndLimit : Obligations.ToneLowWriteSetsPeriodAndLimit := by
  intro c v s
  obtain ⟨t, hexec, hw⟩ := exec_psgwTpl_written c v s
  refine ⟨decode_psgW_toneLow c v, t, hexec, hw.result, ?_, ?_, hw.others, hw.nextTick, hw.frame⟩
  · rw [hw.period, periodWithLow_eq_mask]
  · rw [hw.limit, hw.period]

/-- Settles O21: the high half of the store of a tone period, and the pair that composes both halves. -/
theorem toneHighWriteSetsPeriodAndLimit : Obligations.ToneHighWriteSetsPeriodAndLimit := by
  intro c v s
  refine ⟨decode_psgW_toneHigh c v, ?_, fun p => ?_⟩
  · obtain ⟨t, hexec, hw⟩ := exec_psgwTph_written c v s
    refine ⟨t, hexec, hw.result, ?_, ?_, hw.others, hw.nextTick, hw.frame⟩
    · rw [hw.period, periodWithHigh_eq_mask]
    · rw [hw.limit, hw.period]
  · obtain ⟨t, hlow, hwl⟩ := exec_psgwTpl_written c (Pseudo.lowByte p) s
    obtain ⟨u, hhigh, hwh⟩ := exec_psgwTph_written c (Pseudo.highByte p) t
    rw [hwl.period, periodWithHigh_periodWithLow] at hwh
    have hcfg : t.cfg = s.cfg := by rw [hwl.frame]
    exact ⟨t, u, rfl, hlow, hhigh, hwh.period, hcfg ▸ hwh.limit⟩

/-! ### The level (R84) -/

theorem levelVolume_levelField_toNat (v : Byte) : (levelVolume (levelField v)).toNat = v.toNat % 16 := by
  rw [levelVolume_toNat, levelField_toNat]
  omega

/-- The cached output of a written level is the table entry at `1 + 2 * v[3:0]` (R84). -/
theorem levelOut_levelField (cfg : Configuration) (v : Byte) :
    levelOut cfg (levelField v) = cfg.volumeTable[1 + 2 * (v.toNat % 16)]'(by omega) := by
  simp only [levelOut, Params.volumeEntry, levelVolume_levelField_toNat]

theorem exec_psgwLvl_next {c : Fin 3} {v : Byte} :
    exec (.psgwLvl c v) s = .next t ↔ t = { s.setLevel c (levelField v) with result := .ok } := by
  rw [exec_psgwLvl]
  exact State.succeed_next

/-- The output that a level write caches does not decrease with the volume written. -/
theorem exec_psgwLvl_out_mono {c : Fin 3} {v v' : Byte} {t' : State} (hv : v.toNat % 16 ≤ v'.toNat % 16)
    (ht : exec (.psgwLvl c v) s = .next t) (ht' : exec (.psgwLvl c v') s = .next t') :
    (t.psg.out[c]).toNat ≤ (t'.psg.out[c]).toNat := by
  rw [exec_psgwLvl_next] at ht ht'
  subst ht ht'
  have hvol : (levelVolume (levelField v)).toNat ≤ (levelVolume (levelField v')).toNat := by
    rwa [levelVolume_levelField_toNat, levelVolume_levelField_toNat]
  simpa [levelOut] using s.cfg.volumeEntry_mono hvol

/-- Settles O24: the store of a level and its cache, which TICK reads and leaves, and the order of the table. -/
theorem levelWriteSetsLevelAndCachedOutput : Obligations.LevelWriteSetsLevelAndCachedOutput := by
  intro c v s
  refine ⟨decode_psgW_level c v, ⟨_, exec_psgwLvl_next.mpr rfl, rfl, ?_, ?_, fun d hd => ?_,
    fun _ htick => exec_tick_out htick, rfl⟩, fun _ _ _ hv => exec_psgwLvl_out_mono hv⟩
  · simp [levelField_toNat]
  · simp [levelOut_levelField]
  · simp only [State.setLevel_psg_level, State.setLevel_psg_out, vector_set_get, if_neg hd, and_self]

end Sys2Proof.Machine
end

section
/-! The WT mute mask (42_wt_registers.md, R134): the write, what a set bit does to its channel's output, and the
advance of TICK, which does not read the mask. -/

namespace Sys2Proof

theorem decode_wtW_mute (v : Byte) : decode (Event.wtW 0xaf v) = .ok (.wtwMute v) := by
  rw [decode_wtW]
  rfl

end Sys2Proof

namespace Sys2Proof.Machine

variable {s t u : State}

theorem exec_wtwMute_next {v : Byte} :
    exec (.wtwMute v) s = .next t ↔ t = { s.setMute (muteField v) with result := .ok } :=
  State.succeed_next

/-- The field keeps the bit of every channel. -/
theorem muteField_getLsbD (v : Byte) (ch : Fin 5) : (muteField v).getLsbD ch.val = v.getLsbD ch.val := by
  simp [muteField]

/-- A channel that is not enabled outputs 0, whatever its table, volume and offset hold (R151). -/
theorem Wt.channelOut_of_muted {wt : Wt} {ch : Fin 5} (h : wtToneEnabled wt ch = false) : wt.channelOut ch = 0 := by
  simp [Wt.channelOut, h]

/-- The advance of the WT engine neither reads nor writes the mute mask. -/
theorem Wt.advance_withMute (wt : Wt) (m : BitVec 5) (step : Nat) :
    { wt with mute := m }.advance step = { wt.advance step with mute := m } := rfl

/-- A TICK advances the WT engine by the step of the clock (R150). -/
theorem exec_tick_wt (h : exec .tick s = .next u) : u.wt = s.wt.advance s.clockStep := by
  rw [exec_tick_next] at h
  subst h
  exact s.advanceEngines_wt

/-- Settles O40: the one store of the mask, read bit by bit, and a TICK that advances every channel past it. -/
theorem muteWriteMutesTheMarkedChannels : Obligations.MuteWriteMutesTheMarkedChannels := by
  intro v s
  have henabled (ch : Fin 5) : wtToneEnabled (s.setMute (muteField v)).wt ch = !(v.getLsbD ch.val) := by
    rw [wtToneEnabled, State.setMute_wt_mute, muteField_getLsbD]
  refine ⟨decode_wtW_mute v, _, exec_wtwMute_next.mpr rfl, rfl, muteField_toNat v, henabled,
    fun ch hset => Wt.channelOut_of_muted (by rw [henabled, hset, Bool.not_true]), fun a b ha hb => ?_, rfl⟩
  have hb_eq : b.wt = { a.wt with mute := muteField v } := by
    rw [exec_tick_wt ha, exec_tick_wt hb]
    exact Wt.advance_withMute s.wt (muteField v) s.clockStep
  rw [hb_eq]
  exact ⟨rfl, rfl⟩

end Sys2Proof.Machine
end

section
/-! The failure `UnknownRegister` (60_exceptions.md, R180 and R181): which operations raise it, over the operations,
then over the words that decode to them. -/

namespace Sys2Proof

open Machine

/-- The failure of an operation under a configuration, as a register space and an address: the table of R181 over
the operations. Every other operation completes. -/
def Instr.failure (cfg : Configuration) : Instr → Option (ChipSelect × Byte)
  | .psgwUnk reg _ => some (.psg, reg)
  | .psgrUnk reg => some (.psg, reg)
  | .psgwR0e _ => if cfg.psgIoRegsAccepted then none else some (.psg, 0x0e)
  | .psgwR0f _ => if cfg.psgIoRegsAccepted then none else some (.psg, 0x0f)
  | .psgrR0e => if cfg.psgIoRegsAccepted then none else some (.psg, 0x0e)
  | .psgrR0f => if cfg.psgIoRegsAccepted then none else some (.psg, 0x0f)
  | .wtwHigh reg _ => if wtHighAccepted cfg reg then none else some (.wt, reg)
  | .wtrHigh reg => if wtHighAccepted cfg reg then none else some (.wt, reg)
  | _ => none

/-! ### How an operation ends -/

namespace Machine

variable {s t u : State}

/-- `t` is how an operation with the given failure leaves `s`: the failure is its result and nothing else changes
(R180); an operation with none answers with no failure at all. -/
def EndsWith (s t : State) : Option (ChipSelect × Byte) → Prop
  | some (cs, reg) => t = { s with result := .unknownRegister cs reg }
  | none => ∀ cs reg, t.result ≠ .unknownRegister cs reg

theorem endsWith_of_finish {r : OpResult} (hr : ∀ cs reg, r ≠ .unknownRegister cs reg) (h : u.finish r = .next t) :
    EndsWith s t none := by
  rw [State.finish_next] at h
  subst h
  exact hr

theorem endsWith_of_succeed (h : u.succeed = .next t) : EndsWith s t none :=
  endsWith_of_finish (by simp) h

theorem endsWith_of_answer {b : Byte} (h : u.answer b = .next t) : EndsWith s t none :=
  endsWith_of_finish (by simp) h

theorem endsWith_of_answerDraw (h : u.answerDraw = .next t) : EndsWith s t none := by
  rw [State.answerDraw_next] at h
  subst h
  simp [EndsWith]

theorem endsWith_of_tick (h : execTick u = .next t) : EndsWith s t none :=
  endsWith_of_finish (by simp) h

theorem endsWith_of_reset (h : execReset u = .next t) : EndsWith s t none :=
  endsWith_of_finish (by simp) h

theorem endsWith_of_raise {cs : ChipSelect} {reg : Byte} (h : s.raiseUnknownRegister cs reg = .next t) :
    EndsWith s t (some (cs, reg)) :=
  State.raiseUnknownRegister_next.mp h

theorem endsWith_of_succeedIf {a : Bool} {cs : ChipSelect} {reg : Byte} (h : s.succeedIf a cs reg = .next t) :
    EndsWith s t (if a then none else some (cs, reg)) := by
  cases a with
  | true => exact endsWith_of_succeed h
  | false => exact endsWith_of_raise h

theorem endsWith_of_answerDrawIf {a : Bool} {cs : ChipSelect} {reg : Byte}
    (h : s.answerDrawIf a cs reg = .next t) : EndsWith s t (if a then none else some (cs, reg)) := by
  cases a with
  | true => exact endsWith_of_answerDraw h
  | false => exact endsWith_of_raise h

/-- Every operation ends as `Instr.failure` says, by the shared operation that its meaning ends with. -/
theorem exec_endsWith {i : Instr} (h : exec i s = .next t) : EndsWith s t (i.failure s.cfg) := by
  cases i with
  | psgwUnk | psgrUnk => exact endsWith_of_raise h
  | psgwR0e | psgwR0f | wtwHigh => exact endsWith_of_succeedIf h
  | psgrR0e | psgrR0f | wtrHigh => exact endsWith_of_answerDrawIf h
  | psgwTpl0 | psgwTpl1 | psgwTpl2 | psgwTph0 | psgwTph1 | psgwTph2 | psgwNp | psgwMix | psgwLvl0 | psgwLvl1
  | psgwLvl2 | psgwEnv0 | psgwEnv1 | psgwEnv2 | psgwClk | wtwWave0 | wtwWave1 | wtwWave2 | wtwWave3 | wtwWave4
  | wtwPerl0 | wtwPerl1 | wtwPerl2 | wtwPerl3 | wtwPerl4 | wtwPerh0 | wtwPerh1 | wtwPerh2 | wtwPerh3 | wtwPerh4
  | wtwVol0 | wtwVol1 | wtwVol2 | wtwVol3 | wtwVol4 | wtwMute => exact endsWith_of_succeed h
  | psgrTpl0 | psgrTpl1 | psgrTpl2 | psgrTph0 | psgrTph1 | psgrTph2 | psgrNp | psgrMix | psgrLvl0 | psgrLvl1
  | psgrLvl2 | psgrVmin | psgrVmaj | wtrWave0 | wtrWave1 | wtrWave2 | wtrWave3 | wtrWave4 | wtrPerl0 | wtrPerl1
  | wtrPerl2 | wtrPerl3 | wtrPerl4 | wtrPerh0 | wtrPerh1 | wtrPerh2 | wtrPerh3 | wtrPerh4 | wtrVol0 | wtrVol1
  | wtrVol2 | wtrVol3 | wtrVol4 | wtrMute => exact endsWith_of_answer h
  | psgrEnv0 | psgrEnv1 | psgrEnv2 => exact endsWith_of_answerDraw h
  | tick => exact endsWith_of_tick h
  | reset => exact endsWith_of_reset h
  | rsvd => cases h

end Machine

/-! ### The failure of what an address decodes to -/

variable {cfg : Configuration} {reg : Byte}

theorem failure_decodePsgWrite_register (v : Byte) (h : reg.toNat < 0x0e ∨ reg.toNat = 0xff) :
    (decodePsgWrite reg v).failure cfg = none := by
  unfold decodePsgWrite
  split
  case h_15 | h_16 => omega
  case h_18 => simp only [imp_false] at *; omega
  all_goals rfl

theorem failure_decodePsgRead_register (h : reg.toNat < 0x0e ∨ 0xfe ≤ reg.toNat) :
    (decodePsgRead reg).failure cfg = none := by
  have := reg.isLt
  unfold decodePsgRead
  split
  case h_15 | h_16 => omega
  case h_19 => simp only [imp_false] at *; omega
  all_goals rfl

theorem failure_decodePsgWrite_io (v : Byte) (h : reg = 0x0e ∨ reg = 0x0f) :
    (decodePsgWrite reg v).failure cfg = if cfg.psgIoRegsAccepted then none else some (.psg, reg) := by
  obtain rfl | rfl := h <;> rfl

theorem failure_decodePsgRead_io (h : reg = 0x0e ∨ reg = 0x0f) :
    (decodePsgRead reg).failure cfg = if cfg.psgIoRegsAccepted then none else some (.psg, reg) := by
  obtain rfl | rfl := h <;> rfl

theorem failure_decodeWtWriteHigh_register (v : Byte) (hlo : 0xa0 ≤ reg.toNat) (hhi : reg.toNat < 0xb0) :
    (decodeWtWriteHigh reg v).failure cfg = none := by
  unfold decodeWtWriteHigh
  split
  case h_17 => simp only [imp_false] at *; omega
  all_goals rfl

theorem failure_decodeWtReadHigh_register (hlo : 0xa0 ≤ reg.toNat) (hhi : reg.toNat < 0xb0) :
    (decodeWtReadHigh reg).failure cfg = none := by
  unfold decodeWtReadHigh
  split
  case h_17 => simp only [imp_false] at *; omega
  all_goals rfl

theorem failure_decodeWtWrite_register (v : Byte) (h : reg.toNat < 0xb0) :
    (decodeWtWrite reg v).failure cfg = none := by
  unfold decodeWtWrite
  split
  case h_6 => exact failure_decodeWtWriteHigh_register v (by simp only [imp_false] at *; omega) h
  all_goals rfl

theorem failure_decodeWtRead_register (h : reg.toNat < 0xb0) : (decodeWtRead reg).failure cfg = none := by
  unfold decodeWtRead
  split
  case h_6 => exact failure_decodeWtReadHigh_register (by simp only [imp_false] at *; omega) h
  all_goals rfl

/-- No address of 0xb0..0xff is a WT register that can be written (R140). -/
theorem decodeWtWrite_high (v : Byte) (h : 0xb0 ≤ reg.toNat) : decodeWtWrite reg v = .wtwHigh reg v := by
  unfold decodeWtWrite
  split
  case h_6 =>
    unfold decodeWtWriteHigh
    split
    case h_17 => rfl
    all_goals omega
  all_goals omega

/-- No address of 0xb0..0xff is a WT register that can be read (R145). -/
theorem decodeWtRead_high (h : 0xb0 ≤ reg.toNat) : decodeWtRead reg = .wtrHigh reg := by
  unfold decodeWtRead
  split
  case h_6 =>
    unfold decodeWtReadHigh
    split
    case h_17 => rfl
    all_goals omega
  all_goals omega

/-! ### The table of R181 -/

theorem decodeRegisterOp_psgWrite (v : Byte) : decodeRegisterOp 0 0 reg v = decodePsgWrite reg v := rfl

theorem decodeRegisterOp_psgRead (v : Byte) : decodeRegisterOp 0 1 reg v = decodePsgRead reg := rfl

theorem decodeRegisterOp_wtWrite (v : Byte) : decodeRegisterOp 1 0 reg v = decodeWtWrite reg v := rfl

theorem decodeRegisterOp_wtRead (v : Byte) : decodeRegisterOp 1 1 reg v = decodeWtRead reg := rfl

theorem failure_wtHigh {r : BitVec 1} (v : Byte) (h : 0xb0 ≤ reg.toNat) :
    (decodeRegisterOp 1 r reg v).failure cfg = if wtHighAccepted cfg reg then none else some (.wt, reg) := by
  obtain (rfl : r = 0) | (rfl : r = 1) := r.eq_zero_or_eq_one
  · rw [decodeRegisterOp_wtWrite, decodeWtWrite_high v h]
    rfl
  · rw [decodeRegisterOp_wtRead, decodeWtRead_high h]
    rfl

theorem failure_psgIo {r : BitVec 1} (v : Byte) (h : reg = 0x0e ∨ reg = 0x0f) :
    (decodeRegisterOp 0 r reg v).failure cfg = if cfg.psgIoRegsAccepted then none else some (.psg, reg) := by
  obtain (rfl : r = 0) | (rfl : r = 1) := r.eq_zero_or_eq_one
  · exact failure_decodePsgWrite_io v h
  · exact failure_decodePsgRead_io h

/-- A row of the table that selects an operation gives it its failure. -/
theorem failure_of_raises {c r : BitVec 1} (v : Byte) (h : RaisesUnknownRegister cfg c r reg) :
    (decodeRegisterOp c r reg v).failure cfg = some (chipSelect c, reg) := by
  obtain ⟨rfl, rfl, hlo, hhi⟩ | ⟨rfl, rfl, rfl⟩ | ⟨rfl, hio, hacc⟩ | ⟨rfl, rfl, hlo, hhi⟩ | ⟨rfl, hlo, hacc⟩ := h
  · rw [decodeRegisterOp_psgWrite, decodePsgWrite_unknown v hlo (by omega)]
    rfl
  · rfl
  · rw [failure_psgIo v hio, hacc]
    rfl
  · rw [decodeRegisterOp_psgRead, decodePsgRead_unknown hlo hhi]
    rfl
  · have hrej : wtHighAccepted cfg reg = false := by simpa [wtHighAccepted] using hacc
    rw [failure_wtHigh v hlo, hrej]
    rfl

/-- An operation that no row of the table selects has no failure. -/
theorem failure_of_not_raises {c r : BitVec 1} (v : Byte) (h : ¬ RaisesUnknownRegister cfg c r reg) :
    (decodeRegisterOp c r reg v).failure cfg = none := by
  simp only [RaisesUnknownRegister, not_or] at h
  obtain ⟨hunkW, hfe, hio, hunkR, hhigh⟩ := h
  obtain (rfl : c = 0) | (rfl : c = 1) := c.eq_zero_or_eq_one
  · by_cases hreg : reg = 0x0e ∨ reg = 0x0f
    · have hacc : cfg.psgIoRegsAccepted = true := by simpa using fun hrej => hio ⟨rfl, hreg, hrej⟩
      rw [failure_psgIo v hreg, hacc]
      rfl
    · obtain (rfl : r = 0) | (rfl : r = 1) := r.eq_zero_or_eq_one
      · have hunk : ¬ (0x10 ≤ reg.toNat ∧ reg.toNat ≤ 0xfd) := fun hrange => hunkW ⟨rfl, rfl, hrange⟩
        have hne : reg ≠ 0xfe := fun heq => hfe ⟨rfl, rfl, heq⟩
        exact failure_decodePsgWrite_register v (by bv_omega)
      · have hunk : ¬ (0x10 ≤ reg.toNat ∧ reg.toNat ≤ 0xfd) := fun hrange => hunkR ⟨rfl, rfl, hrange⟩
        exact failure_decodePsgRead_register (by bv_omega)
  · by_cases hlo : 0xb0 ≤ reg.toNat
    · have hacc : wtHighAccepted cfg reg = true := by simpa [wtHighAccepted, hlo] using hhigh
      rw [failure_wtHigh v hlo, hacc]
      rfl
    · obtain (rfl : r = 0) | (rfl : r = 1) := r.eq_zero_or_eq_one
      · exact failure_decodeWtWrite_register v (by omega)
      · exact failure_decodeWtRead_register (by omega)

/-- A word that decodes is a register operation, or a TICK or RESET by its kind (R62). -/
theorem decode_cases {w : EventWord} {i : Instr} (h : decode w = .ok i) :
    (Event.kind w = 0 ∧ i = decodeRegisterOp (Event.cs w) (Event.rw w) (Event.reg w) (Event.value w)) ∨
    (Event.kind w ≠ 0 ∧ (i = .tick ∨ i = .reset)) := by
  unfold decode at h
  split at h
  case h_1 hk => exact .inl ⟨BitVec.eq_of_toNat_eq hk, (Except.ok.inj h).symm⟩
  case h_2 hk => exact .inr ⟨fun h0 => by simp [h0] at hk, .inl (Except.ok.inj h).symm⟩
  case h_3 hk => exact .inr ⟨fun h0 => by simp [h0] at hk, .inr (Except.ok.inj h).symm⟩
  case h_4 => cases h

theorem decode_failure_of_raises {w : EventWord} {i : Instr} (hd : decode w = .ok i)
    (h : Event.kind w = 0 ∧ RaisesUnknownRegister cfg (Event.cs w) (Event.rw w) (Event.reg w)) :
    i.failure cfg = some (chipSelect (Event.cs w), Event.reg w) := by
  obtain ⟨hk, hr⟩ := h
  obtain ⟨-, rfl⟩ | ⟨hne, -⟩ := decode_cases hd
  · exact failure_of_raises _ hr
  · exact absurd hk hne

theorem decode_failure_of_not_raises {w : EventWord} {i : Instr} (hd : decode w = .ok i)
    (h : ¬ (Event.kind w = 0 ∧ RaisesUnknownRegister cfg (Event.cs w) (Event.rw w) (Event.reg w))) :
    i.failure cfg = none := by
  obtain ⟨hk, rfl⟩ | ⟨-, rfl | rfl⟩ := decode_cases hd
  · exact failure_of_not_raises _ fun hr => h ⟨hk, hr⟩
  · rfl
  · rfl

/-- Settles O18: the table decides the failure of the decoded operation, and every operation ends as its failure
says. -/
theorem unknownRegisterRaisedExactlyByTheTable : Obligations.UnknownRegisterRaisedExactlyByTheTable := by
  intro w i s t hdecode hexec
  have hend : EndsWith s t (i.failure s.cfg) := exec_endsWith hexec
  by_cases h : Event.kind w = 0 ∧ RaisesUnknownRegister s.cfg (Event.cs w) (Event.rw w) (Event.reg w)
  · rw [decode_failure_of_raises hdecode h] at hend
    have ht : t = { s with result := .unknownRegister (chipSelect (Event.cs w)) (Event.reg w) } := hend
    exact ⟨iff_of_true ⟨_, _, by rw [ht]⟩ h, fun _ => ht⟩
  · rw [decode_failure_of_not_raises hdecode h] at hend
    exact ⟨iff_of_false (fun ⟨cs, reg, hfail⟩ => hend cs reg hfail) h, fun hraise => absurd hraise h⟩

end Sys2Proof
end

section
/-! The encoding (30_encoding.md): what each kind of word decodes to, the round trip between the decoder and the
encoder, and the operands that an address gives. -/

namespace Sys2Proof

variable {reg : Byte} {w : EventWord} {i : Instr}

/-! ### The four kinds of word (R61, R62) -/

theorem Event.kind_cases (w : EventWord) :
    Event.kind w = 0 ∨ Event.kind w = 1 ∨ Event.kind w = 2 ∨ Event.kind w = 3 := by
  generalize Event.kind w = k
  revert k
  decide

theorem decode_of_kind_register (h : Event.kind w = 0) :
    decode w = .ok (decodeRegisterOp (Event.cs w) (Event.rw w) (Event.reg w) (Event.value w)) := by
  simp [decode, h]

theorem decode_of_kind_tick (h : Event.kind w = 1) : decode w = .ok .tick := by
  simp [decode, h]

theorem decode_of_kind_reset (h : Event.kind w = 2) : decode w = .ok .reset := by
  simp [decode, h]

theorem decode_of_kind_reserved (h : Event.kind w = 3) : decode w = .error .reservedKind := by
  simp [decode, h]

/-- Every kind but the reserved one is an operation of the hardware. -/
theorem decode_of_kind_ne (h : Event.kind w ≠ 3) : ∃ i, decode w = .ok i := by
  obtain h0 | h1 | h2 | h3 := Event.kind_cases w
  · exact ⟨_, decode_of_kind_register h0⟩
  · exact ⟨_, decode_of_kind_tick h1⟩
  · exact ⟨_, decode_of_kind_reset h2⟩
  · exact absurd h3 h

theorem decode_error_iff : decode w = .error .reservedKind ↔ Event.kind w = 3 := by
  refine ⟨fun h => ?_, decode_of_kind_reserved⟩
  by_contra hne
  obtain ⟨i, hi⟩ := decode_of_kind_ne hne
  rw [hi] at h
  cases h

/-- Settles O3: the four kinds one by one, and the 20 bits of a number. -/
theorem decodingFailsExactlyOnTheReservedKind : Obligations.DecodingFailsExactlyOnTheReservedKind := by
  refine ⟨fun w => decode_error_iff, fun w => decode_of_kind_ne, fun n hn => ?_, fun w => ?_⟩
  · simp only [decodeNat, eventWord, if_neg (Nat.not_lt.mpr hn)]
  · simp only [decodeNat, eventWord, if_pos w.isLt, BitVec.ofNat_toNat, BitVec.setWidth_eq]

/-- Settles O6: ten closed words. -/
theorem sampleWordsDecode : Obligations.SampleWordsDecode :=
  ⟨rfl, rfl, rfl, rfl, rfl, rfl, rfl, rfl, rfl, rfl⟩

/-! ### Operands from an address (R63) -/

/-- Below 0xa0 the upper three bits of an address are the channel and the lower five the index. -/
theorem decodeWtWrite_wave {ch : Fin 5} (v : Byte) (h : reg.toNat / 32 = ch.val) :
    decodeWtWrite reg v = .wtwWave ch (waveIndex reg) v := by
  unfold decodeWtWrite
  rw [h]
  fin_cases ch <;> rfl

theorem decodeWtRead_wave {ch : Fin 5} (h : reg.toNat / 32 = ch.val) :
    decodeWtRead reg = .wtrWave ch (waveIndex reg) := by
  unfold decodeWtRead
  rw [h]
  fin_cases ch <;> rfl

theorem waveIndex_toNat (reg : Byte) : (waveIndex reg).toNat = reg.toNat % 32 := by
  simp [waveIndex]

/-- An address is the number it is given as: what turns a formula on addresses into a closed case. -/
theorem byte_eq_ofNat {n : Nat} (h : reg.toNat = n) : reg = BitVec.ofNat 8 n := by
  rw [← h, BitVec.ofNat_toNat, BitVec.setWidth_eq]

/-- The even address of a pair is twice its channel above the base, the odd one is the next. -/
theorem pair_address {n b c : Nat} (hb : b ≤ n) (hc : (n - b) / 2 = c) (heven : b % 2 = 0) :
    (n % 2 = 0 ∧ n = b + 2 * c) ∨ (n % 2 ≠ 0 ∧ n = b + 2 * c + 1) := by
  omega

theorem decode_psg_tonePair {c : Fin 3} (v : Byte) (h : reg.toNat / 2 = c.val) :
    decode (Event.psgW reg v) = .ok (if reg.toNat % 2 = 0 then .psgwTpl c v else .psgwTph c v) ∧
    decode (Event.psgR reg) = .ok (if reg.toNat % 2 = 0 then .psgrTpl c else .psgrTph c) := by
  rw [decode_psgW, decode_psgR]
  obtain ⟨hpar, hreg⟩ | ⟨hpar, hreg⟩ := pair_address (n := reg.toNat) (Nat.zero_le _) h rfl
  · rw [if_pos hpar, if_pos hpar, byte_eq_ofNat hreg]
    fin_cases c <;> exact ⟨rfl, rfl⟩
  · rw [if_neg hpar, if_neg hpar, byte_eq_ofNat hreg]
    fin_cases c <;> exact ⟨rfl, rfl⟩

theorem decode_psg_level {c : Fin 3} (v : Byte) (hlo : 8 ≤ reg.toNat) (h : reg.toNat - 8 = c.val) :
    decode (Event.psgW reg v) = .ok (.psgwLvl c v) ∧ decode (Event.psgR reg) = .ok (.psgrLvl c) := by
  have hreg : reg.toNat = 8 + c.val := by omega
  rw [decode_psgW, decode_psgR, byte_eq_ofNat hreg]
  fin_cases c <;> exact ⟨rfl, rfl⟩

theorem decode_wt_wave {ch : Fin 5} {j : BitVec 5} (v : Byte) (hch : reg.toNat / 32 = ch.val)
    (hj : reg.toNat % 32 = j.toNat) :
    decode (Event.wtW reg v) = .ok (.wtwWave ch j v) ∧ decode (Event.wtR reg) = .ok (.wtrWave ch j) := by
  have hidx : waveIndex reg = j := BitVec.eq_of_toNat_eq ((waveIndex_toNat reg).trans hj)
  rw [decode_wtW, decode_wtR, decodeWtWrite_wave v hch, decodeWtRead_wave hch, hidx]
  exact ⟨rfl, rfl⟩

theorem decode_wt_periodPair {ch : Fin 5} (v : Byte) (hlo : 0xa0 ≤ reg.toNat)
    (h : (reg.toNat - 0xa0) / 2 = ch.val) :
    decode (Event.wtW reg v) = .ok (if reg.toNat % 2 = 0 then .wtwPerl ch v else .wtwPerh ch v) ∧
    decode (Event.wtR reg) = .ok (if reg.toNat % 2 = 0 then .wtrPerl ch else .wtrPerh ch) := by
  rw [decode_wtW, decode_wtR]
  obtain ⟨hpar, hreg⟩ | ⟨hpar, hreg⟩ := pair_address hlo h rfl
  · rw [if_pos hpar, if_pos hpar, byte_eq_ofNat hreg]
    fin_cases ch <;> exact ⟨rfl, rfl⟩
  · rw [if_neg hpar, if_neg hpar, byte_eq_ofNat hreg]
    fin_cases ch <;> exact ⟨rfl, rfl⟩

theorem decode_wt_volume {ch : Fin 5} (v : Byte) (hlo : 0xaa ≤ reg.toNat) (h : reg.toNat - 0xaa = ch.val) :
    decode (Event.wtW reg v) = .ok (.wtwVol ch v) ∧ decode (Event.wtR reg) = .ok (.wtrVol ch) := by
  have hreg : reg.toNat = 0xaa + ch.val := by omega
  rw [decode_wtW, decode_wtR, byte_eq_ofNat hreg]
  fin_cases ch <;> exact ⟨rfl, rfl⟩

/-- Settles O5: the five formulas, each turned into the addresses it stands for. -/
theorem addressOperandsFollowTheFormulas : Obligations.AddressOperandsFollowTheFormulas :=
  ⟨fun _ _ v _ h => decode_psg_tonePair v h, fun _ _ v hlo h => decode_psg_level v hlo h,
    fun _ _ _ v hch hj => decode_wt_wave v hch hj, fun _ _ v hlo h => decode_wt_periodPair v hlo h,
    fun _ _ v hlo h => decode_wt_volume v hlo h⟩

/-! ### From an operation to its word and back -/

theorem decode_wtW_waveReg (ch : Fin 5) (j : BitVec 5) (v : Byte) :
    decode (Event.wtW (waveReg (BitVec.ofNat 3 ch.val) j) v) = .ok (.wtwWave ch j v) := by
  have hdiv : (waveReg (BitVec.ofNat 3 ch.val) j).toNat / 32 = ch.val := by
    rw [waveReg_div, BitVec.toNat_ofNat]
    omega
  rw [decode_wtW, decodeWtWrite_wave v hdiv, waveIndex_waveReg]

theorem decode_wtR_waveReg (ch : Fin 5) (j : BitVec 5) :
    decode (Event.wtR (waveReg (BitVec.ofNat 3 ch.val) j)) = .ok (.wtrWave ch j) := by
  have hdiv : (waveReg (BitVec.ofNat 3 ch.val) j).toNat / 32 = ch.val := by
    rw [waveReg_div, BitVec.toNat_ofNat]
    omega
  rw [decode_wtR, decodeWtRead_wave hdiv, waveIndex_waveReg]

/-- Settles O1: an operation with a register of its own has a closed address; a waveform address gives its channel
and index back; an operation of a block of addresses is told apart by the bounds of that block. -/
theorem encodedOperationDecodesToItself : Obligations.EncodedOperationDecodesToItself := by
  intro i hwf
  cases i with
  | psgwUnk reg v =>
    obtain ⟨hlo, hhi⟩ := of_decide_eq_true hwf
    rw [encode, decode_psgW, decodePsgWrite_unknown v hlo hhi]
  | psgrUnk reg =>
    obtain ⟨hlo, hhi⟩ := of_decide_eq_true hwf
    rw [encode, decode_psgR, decodePsgRead_unknown hlo hhi]
  | wtwHigh reg v => rw [encode, decode_wtW, decodeWtWrite_high v (of_decide_eq_true hwf)]
  | wtrHigh reg => rw [encode, decode_wtR, decodeWtRead_high (of_decide_eq_true hwf)]
  | wtwWave0 j v => exact decode_wtW_waveReg 0 j v
  | wtwWave1 j v => exact decode_wtW_waveReg 1 j v
  | wtwWave2 j v => exact decode_wtW_waveReg 2 j v
  | wtwWave3 j v => exact decode_wtW_waveReg 3 j v
  | wtwWave4 j v => exact decode_wtW_waveReg 4 j v
  | wtrWave0 j => exact decode_wtR_waveReg 0 j
  | wtrWave1 j => exact decode_wtR_waveReg 1 j
  | wtrWave2 j => exact decode_wtR_waveReg 2 j
  | wtrWave3 j => exact decode_wtR_waveReg 3 j
  | wtrWave4 j => exact decode_wtR_waveReg 4 j
  | psgwTpl0 | psgwTpl1 | psgwTpl2 | psgwTph0 | psgwTph1 | psgwTph2 | psgwNp | psgwMix | psgwLvl0 | psgwLvl1
  | psgwLvl2 | psgwEnv0 | psgwEnv1 | psgwEnv2 | psgwR0e | psgwR0f | psgwClk => exact decode_psgW _ _
  | psgrTpl0 | psgrTpl1 | psgrTpl2 | psgrTph0 | psgrTph1 | psgrTph2 | psgrNp | psgrMix | psgrLvl0 | psgrLvl1
  | psgrLvl2 | psgrEnv0 | psgrEnv1 | psgrEnv2 | psgrR0e | psgrR0f | psgrVmin | psgrVmaj => exact decode_psgR _
  | wtwPerl0 | wtwPerl1 | wtwPerl2 | wtwPerl3 | wtwPerl4 | wtwPerh0 | wtwPerh1 | wtwPerh2 | wtwPerh3 | wtwPerh4
  | wtwVol0 | wtwVol1 | wtwVol2 | wtwVol3 | wtwVol4 | wtwMute => exact decode_wtW _ _
  | wtrPerl0 | wtrPerl1 | wtrPerl2 | wtrPerl3 | wtrPerl4 | wtrPerh0 | wtrPerh1 | wtrPerh2 | wtrPerh3 | wtrPerh4
  | wtrVol0 | wtrVol1 | wtrVol2 | wtrVol3 | wtrVol4 | wtrMute => exact decode_wtR _
  | tick | reset => rfl
  | rsvd => cases hwf

/-! ### From a word to its operation and back -/

/-- `i` is an operation whose own word is `w`. -/
def EncodesTo (i : Instr) (w : EventWord) : Prop := i.wellFormed = true ∧ encode i = w

theorem decodePsgWrite_encodesTo (reg v : Byte) : EncodesTo (decodePsgWrite reg v) (Event.psgW reg v) := by
  have := reg.isLt
  unfold decodePsgWrite
  split
  case h_18 => exact ⟨decide_eq_true (by simp only [imp_false] at *; omega), rfl⟩
  all_goals
    rename_i hreg
    rw [byte_eq_ofNat hreg]
    exact ⟨rfl, rfl⟩

theorem decodePsgRead_encodesTo (reg : Byte) : EncodesTo (decodePsgRead reg) (Event.psgR reg) := by
  have := reg.isLt
  unfold decodePsgRead
  split
  case h_19 => exact ⟨decide_eq_true (by simp only [imp_false] at *; omega), rfl⟩
  all_goals
    rename_i hreg
    rw [byte_eq_ofNat hreg]
    exact ⟨rfl, rfl⟩

theorem decodeWtWriteHigh_encodesTo (v : Byte) (h : 0xa0 ≤ reg.toNat) :
    EncodesTo (decodeWtWriteHigh reg v) (Event.wtW reg v) := by
  unfold decodeWtWriteHigh
  split
  case h_17 => exact ⟨decide_eq_true (by simp only [imp_false] at *; omega), rfl⟩
  all_goals
    rename_i hreg
    rw [byte_eq_ofNat hreg]
    exact ⟨rfl, rfl⟩

theorem decodeWtReadHigh_encodesTo (h : 0xa0 ≤ reg.toNat) :
    EncodesTo (decodeWtReadHigh reg) (Event.wtR reg) := by
  unfold decodeWtReadHigh
  split
  case h_17 => exact ⟨decide_eq_true (by simp only [imp_false] at *; omega), rfl⟩
  all_goals
    rename_i hreg
    rw [byte_eq_ofNat hreg]
    exact ⟨rfl, rfl⟩

/-- A waveform address is made of the channel and the index it gives. -/
theorem waveReg_waveIndex {ch : BitVec 3} (h : reg.toNat / 32 = ch.toNat) : waveReg ch (waveIndex reg) = reg := by
  apply BitVec.eq_of_toNat_eq
  rw [waveReg_toNat, waveIndex_toNat]
  omega

theorem decodeWtWrite_encodesTo (reg v : Byte) : EncodesTo (decodeWtWrite reg v) (Event.wtW reg v) := by
  unfold decodeWtWrite
  split
  case h_6 => exact decodeWtWriteHigh_encodesTo v (by simp only [imp_false] at *; omega)
  all_goals
    rename_i hreg
    exact ⟨rfl, congrArg (Event.wtW · v) (waveReg_waveIndex hreg)⟩

theorem decodeWtRead_encodesTo (reg : Byte) : EncodesTo (decodeWtRead reg) (Event.wtR reg) := by
  unfold decodeWtRead
  split
  case h_6 => exact decodeWtReadHigh_encodesTo (by simp only [imp_false] at *; omega)
  all_goals
    rename_i hreg
    exact ⟨rfl, congrArg Event.wtR (waveReg_waveIndex hreg)⟩

theorem canonical_pack_write (c : BitVec 1) (reg v : Byte) :
    Event.canonical (Event.pack 0 c 0 reg v) = Event.pack 0 c 0 reg v := by
  simp [Event.canonical]

/-- A read ignores its value. -/
theorem canonical_pack_read (c : BitVec 1) (reg v : Byte) :
    Event.canonical (Event.pack 0 c 1 reg v) = Event.pack 0 c 1 reg 0 := by
  simp [Event.canonical]

/-- A register operation encodes to the word of its fields, the value of a read ignored. -/
theorem decodeRegisterOp_encodesTo (c r : BitVec 1) (reg v : Byte) :
    EncodesTo (decodeRegisterOp c r reg v) (Event.canonical (Event.pack 0 c r reg v)) := by
  obtain (rfl : r = 0) | (rfl : r = 1) := r.eq_zero_or_eq_one
  · rw [canonical_pack_write]
    obtain (rfl : c = 0) | (rfl : c = 1) := c.eq_zero_or_eq_one
    · exact decodePsgWrite_encodesTo reg v
    · exact decodeWtWrite_encodesTo reg v
  · rw [canonical_pack_read]
    obtain (rfl : c = 0) | (rfl : c = 1) := c.eq_zero_or_eq_one
    · exact decodePsgRead_encodesTo reg
    · exact decodeWtRead_encodesTo reg

/-- Settles O2: by the kind of the word, a register operation by its four families. -/
theorem decodedWordEncodesToItsCanonicalWord : Obligations.DecodedWordEncodesToItsCanonicalWord := by
  intro w i hdecode
  obtain h0 | h1 | h2 | h3 := Event.kind_cases w
  · rw [decode_of_kind_register h0] at hdecode
    cases hdecode
    have henc := decodeRegisterOp_encodesTo (Event.cs w) (Event.rw w) (Event.reg w) (Event.value w)
    rwa [← h0, Event.pack_fields] at henc
  · rw [decode_of_kind_tick h1] at hdecode
    cases hdecode
    exact ⟨rfl, by simp [Event.canonical, h1, encode, Event.tick]⟩
  · rw [decode_of_kind_reset h2] at hdecode
    cases hdecode
    exact ⟨rfl, by simp [Event.canonical, h2, encode, Event.reset]⟩
  · rw [decode_of_kind_reserved h3] at hdecode
    cases hdecode

end Sys2Proof
end

section
/-! The decoder against the opcode table (R65): a row is an aligned block of words, no two rows share a word, and
every word lies in a row of the mnemonic it decodes to. -/

namespace Sys2Proof.OpcodeTable

variable {w : Nat}

/-! ### One row -/

/-- Masking with the upper `20 - k` bits of a word is rounding down to a block of `2 ^ k` words. -/
theorem land_upper (k : Nat) (hw : w < 2 ^ 20) (hk : k ≤ 20) :
    w &&& (2 ^ 20 - 2 ^ k) = w / 2 ^ k * 2 ^ k := by
  have hmask : 2 ^ 20 - 2 ^ k = (2 ^ (20 - k) - 1) * 2 ^ k := by
    rw [Nat.sub_mul, ← pow_add, Nat.sub_add_cancel hk, one_mul]
  apply Nat.eq_of_testBit_eq
  intro j
  rw [hmask, Nat.testBit_and, Nat.testBit_mul_two_pow, Nat.testBit_mul_two_pow, Nat.testBit_two_pow_sub_one,
    Nat.testBit_div_two_pow]
  by_cases hj : k ≤ j
  · have hadd : j - k + k = j := by omega
    by_cases hlt : j < 20
    · have : j - k < 20 - k := by omega
      simp [hj, hadd, this]
    · have : w.testBit j = false :=
        Nat.testBit_lt_two_pow (lt_of_lt_of_le hw (Nat.pow_le_pow_right (by decide) (by omega)))
      simp [hj, hadd, this]
  · simp [hj]

/-- Two rows that differ on a bit both of them look at select no word together. -/
theorem Row.selects_disjoint {r q : Row} (hne : Nat.land r.pattern q.mask ≠ Nat.land q.pattern r.mask)
    (hr : r.selects w = true) : q.selects w = false := by
  by_contra hq
  rw [Bool.not_eq_false] at hq
  simp only [Row.selects, beq_iff_eq] at hr hq
  rw [← hr, ← hq] at hne
  exact hne (by simpa using Nat.and_right_comm w r.mask q.mask)

/-- The 103 rows pairwise differ on a bit that both look at. -/
theorem rows_pairwise :
    rows.Pairwise fun r q => Nat.land r.pattern q.mask ≠ Nat.land q.pattern r.mask := by
  decide

/-- In a list of rows that pairwise differ so, a row that selects the word is the only one. -/
theorem filter_selects_eq_singleton {l : List Row} {r : Row}
    (hl : l.Pairwise fun r q => Nat.land r.pattern q.mask ≠ Nat.land q.pattern r.mask) (hmem : r ∈ l)
    (hr : r.selects w = true) : (l.filter fun q => q.selects w) = [r] := by
  induction hl with
  | nil => cases hmem
  | @cons q l hq _ ih =>
    obtain rfl | hmem := List.mem_cons.mp hmem
    · have htail : (l.filter fun q => q.selects w) = [] :=
        List.filter_eq_nil_iff.mpr fun p hp => by simp [Row.selects_disjoint (hq p hp) hr]
      rw [List.filter_cons_of_pos (by simpa using hr), htail]
    · have hhead : q.selects w = false := by
        by_contra hsel
        rw [Row.selects_disjoint (hq r hmem) (by simpa using hsel)] at hr
        cases hr
      rw [List.filter_cons_of_neg (by simp [hhead]), ih hmem]

/-! ### A row of the mnemonic -/

/-- Some row of the list has the mnemonic and selects the word. -/
def HasRow (l : List Row) (m : String) (w : Nat) : Prop := ∃ r ∈ l, r.mnemonic = m ∧ r.selects w = true

/-- One row of the mnemonic that selects the word is all that the table has for it. -/
theorem selected_of_hasRow {m : String} (h : HasRow rows m w) : selected w = [m] := by
  obtain ⟨r, hmem, rfl, hr⟩ := h
  rw [selected, filter_selects_eq_singleton rows_pairwise hmem hr, List.map_singleton]

theorem HasRow.of_subset {l l' : List Row} {m : String} (h : HasRow l m w) (hl : l ⊆ l') : HasRow l' m w :=
  let ⟨r, hmem, hr⟩ := h
  ⟨r, hl hmem, hr⟩

/-- A row by its place in the list, selecting the block of `2 ^ k` words that the word lies in. -/
theorem hasRow_of_getElem {l : List Row} {m : String} (n k p : Nat) (hget : l[n]? = some ⟨m, p, 2 ^ 20 - 2 ^ k⟩)
    (hw : w < 2 ^ 20) (hk : k ≤ 20) (hblock : w / 2 ^ k * 2 ^ k = p) : HasRow l m w := by
  have hland : w &&& (2 ^ 20 - 2 ^ k) = p := by rw [land_upper k hw hk, hblock]
  exact ⟨_, List.mem_of_getElem? hget, rfl, beq_iff_eq.mpr hland⟩

/-- No row looks at the value of a word. -/
theorem rows_mask_upper : ∀ r ∈ rows, 0xfff00 &&& r.mask = r.mask := by
  decide

/-- So the rows can be tried on the word with the value 0. -/
theorem hasRow_of_find {l : List Row} {m : String} {n : Nat} (hl : l ⊆ rows) (hw : w < 2 ^ 20) (hn : w / 256 = n)
    (hfind : (l.find? fun r => r.selects (n * 256)).map Row.mnemonic = some m) : HasRow l m w := by
  obtain ⟨r, hr, hm⟩ := Option.map_eq_some_iff.mp hfind
  have hmem := List.mem_of_find?_eq_some hr
  have hsel : n * 256 &&& r.mask = r.pattern :=
    beq_iff_eq.mp (List.find?_some (p := fun r : Row => r.selects (n * 256)) hr)
  have hland : w &&& r.mask = n * 256 &&& r.mask := by
    have hupper : w &&& 0xfff00 = n * 256 := hn ▸ land_upper 8 hw (by decide)
    rw [← hupper, Nat.and_assoc, rows_mask_upper r (hl hmem)]
  exact ⟨r, hmem, hm, beq_iff_eq.mpr (hland.trans hsel)⟩

/-- The masks of the rows that share their mnemonic, one for every size of block. -/
theorem land_masks (hw : w < 2 ^ 20) :
    w &&& 0xfff00 = w / 0x100 * 0x100 ∧ w &&& 0xffe00 = w / 0x200 * 0x200 ∧
    w &&& 0xffc00 = w / 0x400 * 0x400 ∧ w &&& 0xff800 = w / 0x800 * 0x800 ∧
    w &&& 0xff000 = w / 0x1000 * 0x1000 ∧ w &&& 0xfe000 = w / 0x2000 * 0x2000 ∧
    w &&& 0xfc000 = w / 0x4000 * 0x4000 :=
  ⟨land_upper 8 hw (by decide), land_upper 9 hw (by decide), land_upper 10 hw (by decide),
    land_upper 11 hw (by decide), land_upper 12 hw (by decide), land_upper 13 hw (by decide),
    land_upper 14 hw (by decide)⟩

/-! ### The rows of the four families of register operation

A register has the one row of its address; a waveform table and the addresses with no register are blocks. -/

theorem psgWrites_subset : psgWrites ⊆ rows := fun _ h => by simp [rows, h]

theorem psgReads_subset : psgReads ⊆ rows := fun _ h => by simp [rows, h]

theorem wtWrites_subset : wtWrites ⊆ rows := fun _ h => by simp [rows, h]

theorem wtReads_subset : wtReads ⊆ rows := fun _ h => by simp [rows, h]

section
variable (reg v : Byte)

theorem decodePsgWrite_hasRow (hw : w < 2 ^ 20) (h : w / 256 = reg.toNat) :
    HasRow psgWrites (decodePsgWrite reg v).mnemonic w := by
  have hlt := reg.isLt
  unfold decodePsgWrite
  split
  case h_18 =>
    simp only [imp_false] at *
    simp [HasRow, psgWrites, Instr.mnemonic, Row.selects, land_masks hw]
    omega
  all_goals
    rename_i haddr
    rw [haddr] at h
    exact hasRow_of_find psgWrites_subset hw h rfl

theorem decodePsgRead_hasRow (hw : w < 2 ^ 20) (h : w / 256 = 0x100 + reg.toNat) :
    HasRow psgReads (decodePsgRead reg).mnemonic w := by
  have hlt := reg.isLt
  unfold decodePsgRead
  split
  case h_19 =>
    simp only [imp_false] at *
    simp [HasRow, psgReads, Instr.mnemonic, Row.selects, land_masks hw]
    omega
  all_goals
    rename_i haddr
    rw [haddr] at h
    exact hasRow_of_find psgReads_subset hw h rfl

theorem decodeWtWriteHigh_hasRow (hw : w < 2 ^ 20) (h : w / 256 = 0x200 + reg.toNat) (hreg : 0xa0 ≤ reg.toNat) :
    HasRow wtWrites (decodeWtWriteHigh reg v).mnemonic w := by
  have hlt := reg.isLt
  unfold decodeWtWriteHigh
  split
  case h_17 =>
    simp only [imp_false] at *
    simp [HasRow, wtWrites, Instr.mnemonic, Row.selects, land_masks hw]
    omega
  all_goals
    rename_i haddr
    rw [haddr] at h
    exact hasRow_of_find wtWrites_subset hw h rfl

theorem decodeWtReadHigh_hasRow (hw : w < 2 ^ 20) (h : w / 256 = 0x300 + reg.toNat) (hreg : 0xa0 ≤ reg.toNat) :
    HasRow wtReads (decodeWtReadHigh reg).mnemonic w := by
  have hlt := reg.isLt
  unfold decodeWtReadHigh
  split
  case h_17 =>
    simp only [imp_false] at *
    simp [HasRow, wtReads, Instr.mnemonic, Row.selects, land_masks hw]
    omega
  all_goals
    rename_i haddr
    rw [haddr] at h
    exact hasRow_of_find wtReads_subset hw h rfl

theorem decodeWtWrite_hasRow (hw : w < 2 ^ 20) (h : w / 256 = 0x200 + reg.toNat) :
    HasRow wtWrites (decodeWtWrite reg v).mnemonic w := by
  unfold decodeWtWrite
  split
  case h_6 => exact decodeWtWriteHigh_hasRow reg v hw h (by simp only [imp_false] at *; omega)
  case h_1 => exact hasRow_of_getElem 0 13 0x20000 rfl hw (by decide) (by omega)
  case h_2 => exact hasRow_of_getElem 1 13 0x22000 rfl hw (by decide) (by omega)
  case h_3 => exact hasRow_of_getElem 2 13 0x24000 rfl hw (by decide) (by omega)
  case h_4 => exact hasRow_of_getElem 3 13 0x26000 rfl hw (by decide) (by omega)
  case h_5 => exact hasRow_of_getElem 4 13 0x28000 rfl hw (by decide) (by omega)

theorem decodeWtRead_hasRow (hw : w < 2 ^ 20) (h : w / 256 = 0x300 + reg.toNat) :
    HasRow wtReads (decodeWtRead reg).mnemonic w := by
  unfold decodeWtRead
  split
  case h_6 => exact decodeWtReadHigh_hasRow reg hw h (by simp only [imp_false] at *; omega)
  case h_1 => exact hasRow_of_getElem 0 13 0x30000 rfl hw (by decide) (by omega)
  case h_2 => exact hasRow_of_getElem 1 13 0x32000 rfl hw (by decide) (by omega)
  case h_3 => exact hasRow_of_getElem 2 13 0x34000 rfl hw (by decide) (by omega)
  case h_4 => exact hasRow_of_getElem 3 13 0x36000 rfl hw (by decide) (by omega)
  case h_5 => exact hasRow_of_getElem 4 13 0x38000 rfl hw (by decide) (by omega)

/-- The upper twelve bits of a word of kind 0 are its register space, its direction and its address. -/
theorem pack_div (c r : BitVec 1) :
    (Event.pack 0 c r reg v).toNat / 256 = c.toNat * 512 + r.toNat * 256 + reg.toNat := by
  have := v.isLt
  rw [Event.pack_toNat]
  have hzero : (0 : BitVec 2).toNat = 0 := rfl
  omega

theorem decodeRegisterOp_hasRow (c r : BitVec 1) :
    HasRow rows (decodeRegisterOp c r reg v).mnemonic (Event.pack 0 c r reg v).toNat := by
  have hw := (Event.pack 0 c r reg v).isLt
  have hdiv := pack_div reg v c r
  obtain (rfl : c = 0) | (rfl : c = 1) := c.eq_zero_or_eq_one
  · obtain (rfl : r = 0) | (rfl : r = 1) := r.eq_zero_or_eq_one
    · exact (decodePsgWrite_hasRow reg v hw (by simpa using hdiv)).of_subset psgWrites_subset
    · exact (decodePsgRead_hasRow reg hw (by simpa using hdiv)).of_subset psgReads_subset
  · obtain (rfl : r = 0) | (rfl : r = 1) := r.eq_zero_or_eq_one
    · exact (decodeWtWrite_hasRow reg v hw (by simpa using hdiv)).of_subset wtWrites_subset
    · exact (decodeWtRead_hasRow reg hw (by simpa using hdiv)).of_subset wtReads_subset

end

/-- A word of one of the kinds with no register lies in the one row of its kind. -/
theorem hasRow_of_kind {e : EventWord} {m : String} {p : Nat} (hmem : (⟨m, p, 0xc0000⟩ : Row) ∈ others)
    (hp : (Event.kind e).toNat * 0x40000 = p) : HasRow rows m e.toNat := by
  refine ⟨⟨m, p, 0xc0000⟩, by simp [rows, hmem], rfl, ?_⟩
  have hkind : (Event.kind e).toNat = e.toNat / 0x40000 := by
    have := e.isLt
    simp only [Event.kind, BitVec.extractLsb'_toNat, Nat.shiftRight_eq_div_pow]
    omega
  have hland : e.toNat &&& 0xc0000 = e.toNat / 0x40000 * 0x40000 := land_upper 18 e.isLt (by decide)
  rw [hkind, ← hland] at hp
  exact beq_iff_eq.mpr hp

/-- Settles O4: the word's row by its kind, the only one because the rows are pairwise disjoint. -/
theorem decodingAgreesWithTheOpcodeTable : Obligations.DecodingAgreesWithTheOpcodeTable := by
  intro e
  refine ⟨fun i hdecode => selected_of_hasRow ?_, fun h3 => selected_of_hasRow ?_⟩
  · obtain h0 | h1 | h2 | h3 := Event.kind_cases e
    · rw [decode_of_kind_register h0] at hdecode
      cases hdecode
      have hrow := decodeRegisterOp_hasRow (Event.reg e) (Event.value e) (Event.cs e) (Event.rw e)
      rwa [← h0, Event.pack_fields] at hrow
    · rw [decode_of_kind_tick h1] at hdecode
      cases hdecode
      exact hasRow_of_kind (p := 0x40000) (by simp [others, Instr.mnemonic]) (by simp [h1])
    · rw [decode_of_kind_reset h2] at hdecode
      cases hdecode
      exact hasRow_of_kind (p := 0x80000) (by simp [others, Instr.mnemonic]) (by simp [h2])
    · rw [decode_of_kind_reserved h3] at hdecode
      cases hdecode
  · exact hasRow_of_kind (p := 0xc0000) (by simp [others]) (by simp [h3])

end Sys2Proof.OpcodeTable
end

section
/-! The noise shift register (41_psg_tick.md, R113 and R114). The shift is linear over xor, and 17 shifts are the
identity plus three shifts; so a power of the shift is a polynomial in it, and squaring that polynomial 17 times
gives back the shift itself. The period 131071 follows because that number is prime. -/

namespace Sys2Proof.Machine

/-! ### One step -/

/-- Settles O53: the guard replaces 0, and the literal force sets bit 16. -/
theorem shiftRegisterIsNeverZero : Obligations.ShiftRegisterIsNeverZero := by
  intro force tap s hzero
  cases force with
  | ifZero =>
    rw [lfsrNext] at hzero
    split at hzero
    next => exact absurd hzero (by decide)
    next hne => exact hne hzero
  | always =>
    have hbit : (lfsrNext .always tap s).getLsbD 16 = true := by simp [lfsrNext]
    rw [hzero] at hbit
    exact absurd hbit (by decide)

/-- No number of shifts makes a non-zero register zero. -/
theorem lfsrAdvance_ne_zero (cfg : Configuration) (k : Nat) {s : Seed} (hs : s ≠ 0) : lfsrAdvance cfg k s ≠ 0 := by
  cases k with
  | zero => exact hs
  | succ k =>
    rw [lfsrAdvance, Function.iterate_succ_apply']
    exact shiftRegisterIsNeverZero _ _ _

/-- Settles O55: the force is an or with bit 16, and 0x1ffff is a fixed point. -/
theorem alwaysForcedNoiseReachesAFixedPoint : Obligations.AlwaysForcedNoiseReachesAFixedPoint := by
  refine ⟨fun tap s k => ?_, fun k => ?_, by decide⟩
  · rw [Function.iterate_succ_apply']
    simp [lfsrNext]
  · have hreach : (lfsrNext .always 0x10000)^[16] 0x10000 = 0x1ffff := by decide
    have hfixed : Function.IsFixedPt (lfsrNext .always 0x10000) 0x1ffff := by decide
    rw [Function.iterate_add_apply, hreach]
    exact hfixed.iterate k

/-! ### The shift is linear -/

/-- Adding a term under the sum of two conditions is adding it under each. -/
theorem ite_xor (p q : Bool) (x : Seed) :
    (if p ^^ q then x else 0#17) = (if p then x else 0#17) ^^^ (if q then x else 0#17) := by
  cases p <;> cases q <;> simp

theorem lfsrFeedback_xor (a b : Seed) : lfsrFeedback (a ^^^ b) = (lfsrFeedback a ^^ lfsrFeedback b) := by
  simp only [lfsrFeedback, BitVec.getLsbD_xor, Bool.xor_assoc, Bool.xor_left_comm]

theorem lfsrShift_eq (tap s : Seed) : lfsrShift tap s = s >>> 1 ^^^ (if lfsrFeedback s then tap else 0#17) := rfl

theorem lfsrShift_xor (tap a b : Seed) : lfsrShift tap (a ^^^ b) = lfsrShift tap a ^^^ lfsrShift tap b := by
  simp only [lfsrShift_eq, lfsrFeedback_xor, BitVec.ushiftRight_xor_distrib, ite_xor]
  ac_rfl

/-- The reference shift, tap 0x10000 (decision D12). -/
def shift : Seed → Seed := lfsrShift 0x10000

theorem shift_xor (a b : Seed) : shift (a ^^^ b) = shift a ^^^ shift b := lfsrShift_xor _ a b

@[simp] theorem shift_zero : shift 0#17 = 0#17 := by decide

/-- The tap puts the feedback into bit 16; every other bit comes from the bit above it. -/
theorem shift_getLsbD_top (s : Seed) : (shift s).getLsbD 16 = (s.getLsbD 0 ^^ s.getLsbD 3) := by
  rw [← lfsrFeedback, shift, lfsrShift_eq, BitVec.getLsbD_xor, BitVec.getLsbD_ushiftRight]
  cases lfsrFeedback s <;> simp

theorem shift_getLsbD {j : Nat} (hj : j < 16) (s : Seed) : (shift s).getLsbD j = s.getLsbD (j + 1) := by
  have htap : (0x10000 : Seed).getLsbD j = false := by interval_cases j <;> rfl
  rw [shift, lfsrShift_eq, BitVec.getLsbD_xor, BitVec.getLsbD_ushiftRight, Nat.add_comm 1 j,
    apply_ite (BitVec.getLsbD · j), htap, BitVec.getLsbD_zero, ite_self, Bool.xor_false]

theorem shift_eq_zero {s : Seed} (h : shift s = 0#17) : s = 0#17 := by
  have hup : ∀ j < 16, s.getLsbD (j + 1) = false := fun j hj => by rw [← shift_getLsbD hj, h]; simp
  have hzero : s.getLsbD 0 = false := by
    have htop := shift_getLsbD_top s
    rw [h, hup 2 (by decide)] at htop
    simpa using htop.symm
  apply BitVec.eq_of_getLsbD_eq
  intro j hj
  cases j with
  | zero => simpa using hzero
  | succ j => simpa using hup j (by omega)

theorem shift_injective : Function.Injective shift := by
  intro a b hab
  have hxor : shift (a ^^^ b) = 0#17 := by rw [shift_xor, hab, BitVec.xor_self]
  exact BitVec.xor_eq_zero_iff.mp (shift_eq_zero hxor)

/-! ### Seventeen shifts -/

/-- Bit `j` of the register is what comes out at bit 0 after `j` shifts. -/
theorem iterate_shift_getLsbD (k : Nat) (s : Seed) {j : Nat} (hj : j < 17) :
    (shift^[k] s).getLsbD j = (shift^[k + j] s).getLsbD 0 := by
  induction j generalizing k with
  | zero => rfl
  | succ j ih =>
    rw [← shift_getLsbD (by omega), ← Function.iterate_succ_apply' shift, ih (k + 1) (by omega)]
    congr 2
    omega

/-- The output of the register is a sequence with the recurrence `a (n + 17) = a n + a (n + 3)`. -/
theorem iterate_shift_recurrence (n : Nat) (s : Seed) :
    (shift^[n + 17] s).getLsbD 0 = ((shift^[n] s).getLsbD 0 ^^ (shift^[n + 3] s).getLsbD 0) := by
  have htop : (shift^[n + 1] s).getLsbD 16 = (shift^[n + 17] s).getLsbD 0 :=
    iterate_shift_getLsbD (n + 1) s (by decide)
  rw [← htop, Function.iterate_succ_apply', shift_getLsbD_top, iterate_shift_getLsbD n s (by decide : 3 < 17)]

theorem iterate_shift_seventeen (s : Seed) : shift^[17] s = s ^^^ shift^[3] s := by
  apply BitVec.eq_of_getLsbD_eq
  intro j hj
  have hzero : s.getLsbD j = (shift^[j] s).getLsbD 0 := by
    simpa using iterate_shift_getLsbD 0 s hj
  rw [BitVec.getLsbD_xor, iterate_shift_getLsbD 17 s hj, iterate_shift_getLsbD 3 s hj, hzero, Nat.add_comm 17 j,
    Nat.add_comm 3 j, iterate_shift_recurrence]

/-! ### Polynomials in the shift

A register value is read as a polynomial of degree below 17, bit `i` the coefficient of the `i`-th power. -/

/-- The first `n` terms of the polynomial `v` in `f`, applied to `b`. -/
def polyApply (f : Seed → Seed) (v b : Seed) : Nat → Seed
  | 0 => 0#17
  | n + 1 => polyApply f v b n ^^^ (if v.getLsbD n then f^[n] b else 0#17)

/-- A polynomial times the unknown, reduced by `X ^ 17 = 1 + X ^ 3`. -/
def mulX (v : Seed) : Seed := (v <<< 1) ^^^ (if v.getLsbD 16 then 0b1001 else 0#17)

theorem polyApply_xor (f : Seed → Seed) (u v b : Seed) (n : Nat) :
    polyApply f (u ^^^ v) b n = polyApply f u b n ^^^ polyApply f v b n := by
  induction n with
  | zero => simp [polyApply]
  | succ n ih =>
    simp only [polyApply, ih, BitVec.getLsbD_xor, ite_xor]
    ac_rfl

@[simp] theorem polyApply_zero (f : Seed → Seed) (b : Seed) (n : Nat) : polyApply f 0#17 b n = 0#17 := by
  induction n with
  | zero => rfl
  | succ n ih => simp [polyApply, ih]

/-- One more shift of the first `n` terms raises every power by one. -/
theorem shift_polyApply (v b : Seed) {n : Nat} (hn : n < 17) :
    shift (polyApply shift v b n) = polyApply shift (v <<< 1) b (n + 1) := by
  induction n with
  | zero => simp [polyApply]
  | succ n ih =>
    have hcoeff : (v <<< 1).getLsbD (n + 1) = v.getLsbD n := by
      simp only [BitVec.getLsbD_shiftLeft, hn]
      simp
    rw [polyApply, shift_xor, ih (by omega), polyApply.eq_2 (n := n + 1), hcoeff, Function.iterate_succ_apply',
      apply_ite shift, shift_zero]

/-- Shifting a polynomial is multiplying it by the unknown. -/
theorem shift_polyApply_mulX (v b : Seed) :
    shift (polyApply shift v b 17) = polyApply shift (mulX v) b 17 := by
  have hwrap : polyApply shift (if v.getLsbD 16 then 0b1001 else 0#17) b 17 =
      if v.getLsbD 16 then shift^[17] b else 0#17 := by
    rw [iterate_shift_seventeen]
    split <;> simp [polyApply]
  rw [mulX, polyApply_xor, hwrap, polyApply, shift_xor, shift_polyApply v b (by decide), apply_ite shift,
    shift_zero, ← Function.iterate_succ_apply' shift]

theorem iterate_shift_polyApply (n : Nat) (v b : Seed) :
    shift^[n] (polyApply shift v b 17) = polyApply shift (mulX^[n] v) b 17 := by
  induction n with
  | zero => rfl
  | succ n ih => rw [Function.iterate_succ_apply', Function.iterate_succ_apply', ih, shift_polyApply_mulX]

/-- Applying two polynomials in turn is applying their product. -/
theorem polyApply_polyApply (u v b : Seed) (n : Nat) :
    polyApply shift u (polyApply shift v b 17) n = polyApply shift (polyApply mulX u v n) b 17 := by
  induction n with
  | zero => simp [polyApply]
  | succ n ih =>
    rw [polyApply, ih, polyApply.eq_2 (f := mulX), polyApply_xor, iterate_shift_polyApply,
      apply_ite (polyApply shift · b 17), polyApply_zero]

/-- `m` shifts are the polynomial `v` in the shift. -/
def IsPower (m : Nat) (v : Seed) : Prop := ∀ b, shift^[m] b = polyApply shift v b 17

/-- The square of a polynomial, reduced. -/
def square (v : Seed) : Seed := polyApply mulX v v 17

theorem isPower_one : IsPower 1 0b10 := fun b => by simp [polyApply]

theorem IsPower.double {m : Nat} {v : Seed} (h : IsPower m v) : IsPower (2 * m) (square v) := fun b => by
  rw [two_mul, Function.iterate_add_apply, h b, h, polyApply_polyApply, square]

theorem IsPower.iterate_double {v : Seed} (h : IsPower 1 v) (n : Nat) : IsPower (2 ^ n) (square^[n] v) := by
  induction n with
  | zero => exact h
  | succ n ih =>
    rw [Function.iterate_succ_apply', pow_succ']
    exact ih.double

/-- Squaring the unknown 17 times gives it back. -/
theorem iterate_square_seventeen : square^[17] 0b10 = 0b10 := by decide +kernel

/-! ### The cycle -/

theorem iterate_shift_period (s : Seed) : shift^[131071] s = s := by
  have hpower : IsPower (131071 + 1) 0b10 := by
    have hdouble := isPower_one.iterate_double 17
    rwa [iterate_square_seventeen, (by norm_num : 2 ^ 17 = 131071 + 1)] at hdouble
  apply shift_injective
  rw [← Function.iterate_succ_apply' shift, hpower s]
  exact (isPower_one s).symm

/-- A register that one shift leaves alone has all bits equal, and the feedback clears the top one. -/
theorem eq_zero_of_shift_eq {s : Seed} (h : shift s = s) : s = 0#17 := by
  have hbits : ∀ j < 17, s.getLsbD j = s.getLsbD 0 := by
    intro j hj
    induction j with
    | zero => rfl
    | succ j ih => rw [← shift_getLsbD (by omega), h, ih (by omega)]
  have htop : s.getLsbD 16 = false := by
    rw [← h, shift_getLsbD_top, hbits 3 (by decide), Bool.xor_self]
  apply BitVec.eq_of_getLsbD_eq
  intro j hj
  rw [hbits j hj, ← hbits 16 (by decide), htop, BitVec.getLsbD_zero]

/-- Every non-zero value has the period 131071, a prime. -/
theorem minimalPeriod_shift {s : Seed} (hs : s ≠ 0#17) : Function.minimalPeriod shift s = 131071 := by
  have hprime : Fact (Nat.Prime 131071) := ⟨by norm_num⟩
  exact Function.minimalPeriod_eq_prime (iterate_shift_period s) fun hfixed => hs (eq_zero_of_shift_eq hfixed)

theorem iterate_shift_ne_zero {s : Seed} (hs : s ≠ 0#17) (k : Nat) : shift^[k] s ≠ 0#17 := by
  induction k with
  | zero => exact hs
  | succ k ih =>
    rw [Function.iterate_succ_apply']
    exact fun hzero => ih (shift_eq_zero hzero)

/-- The 131071 values of one cycle are all the non-zero ones. -/
theorem exists_iterate_shift_eq {s s' : Seed} (hs : s ≠ 0#17) (hs' : s' ≠ 0#17) :
    ∃ k < 131071, shift^[k] s = s' := by
  have hinj : Set.InjOn (fun k => (shift^[k] s).toNat) (Finset.range 131071) := by
    intro k hk l hl heq
    refine Function.iterate_injOn_Iio_minimalPeriod (f := shift) (x := s) ?_ ?_ (BitVec.eq_of_toNat_eq heq)
    · simpa [minimalPeriod_shift hs] using hk
    · simpa [minimalPeriod_shift hs] using hl
  have hmem : ∀ r : Seed, r ≠ 0#17 → r.toNat ∈ Finset.Ico 1 131072 := fun r hr =>
    Finset.mem_Ico.mpr ⟨Nat.pos_of_ne_zero fun h => hr (BitVec.eq_of_toNat_eq h), r.isLt⟩
  have hsub : (Finset.range 131071).image (fun k => (shift^[k] s).toNat) ⊆ Finset.Ico 1 131072 :=
    Finset.image_subset_iff.mpr fun k _ => hmem _ (iterate_shift_ne_zero hs k)
  have hall := Finset.eq_of_subset_of_card_le hsub (by rw [Finset.card_image_of_injOn hinj]; simp)
  obtain ⟨k, hk, heq⟩ := Finset.mem_image.mp (hall ▸ hmem s' hs')
  exact ⟨k, Finset.mem_range.mp hk, BitVec.eq_of_toNat_eq heq⟩

/-- On a non-zero register the guard of the reference parameters never acts. -/
theorem iterate_lfsrNext_eq_shift {s : Seed} (hs : s ≠ 0#17) (k : Nat) :
    (lfsrNext .ifZero 0x10000)^[k] s = shift^[k] s := by
  induction k with
  | zero => rfl
  | succ k ih =>
    have hne : shift (shift^[k] s) ≠ 0#17 := fun h => iterate_shift_ne_zero hs k (shift_eq_zero h)
    rw [Function.iterate_succ_apply', Function.iterate_succ_apply', ih]
    exact if_neg hne

/-- Settles O54: the shift has the prime period 131071 on every non-zero value, so one cycle holds them all. -/
theorem referenceNoiseHasTheFullPeriod : Obligations.ReferenceNoiseHasTheFullPeriod := by
  intro s hs
  refine ⟨fun k => ?_, fun s' hs' => ?_⟩
  · rw [iterate_lfsrNext_eq_shift hs, ← Nat.dvd_iff_mod_eq_zero, ← minimalPeriod_shift hs]
    exact Function.isPeriodicPt_iff_minimalPeriod_dvd
  · obtain ⟨k, hk, heq⟩ := exists_iterate_shift_eq hs hs'
    exact ⟨k, hk, by rw [iterate_lfsrNext_eq_shift hs, heq]⟩

end Sys2Proof.Machine
end

section
/-! What an operation can do, said once: a register write, a reply that changes no hardware, TICK or RESET. The
rules about the whole machine (10_state.md, 60_exceptions.md section 1) follow by going through these cases. -/

namespace Sys2Proof.Machine

variable {s t u : State} {i : Instr}

/-! ### The effect of an operation -/

/-- `u` is the state that a register write makes of `s`, before it reports its success. -/
inductive Writes (s : State) : Instr → State → Prop
  | toneLow (c : Fin 3) (v : Byte) :
      Writes s (.psgwTpl c v) (s.setTonePeriod c (periodWithLow s.psg.period[c] v))
  | toneHigh (c : Fin 3) (v : Byte) :
      Writes s (.psgwTph c v) (s.setTonePeriod c (periodWithHigh s.psg.period[c] v))
  | noisePeriod (v : Byte) : Writes s (.psgwNp v) (s.setNoisePeriod (noisePeriodField v))
  | mix (v : Byte) : Writes s (.psgwMix v) (s.setMix (mixField v))
  | level (c : Fin 3) (v : Byte) : Writes s (.psgwLvl c v) (s.setLevel c (levelField v))
  | clock (v : Byte) : Writes s (.psgwClk v) (s.setClock (clockField v))
  | wave (ch : Fin 5) (j : BitVec 5) (v : Byte) : Writes s (.wtwWave ch j v) (s.setWave ch j v)
  | wtPeriodEven (ch : Fin 5) (v : Byte) :
      Writes s (.wtwPerl ch v)
        (s.setWtPeriod ch (periodWithHalf (wtEvenHalf s.cfg.wtPeriodSelect) s.wt.period[ch] v))
  | wtPeriodOdd (ch : Fin 5) (v : Byte) :
      Writes s (.wtwPerh ch v)
        (s.setWtPeriod ch (periodWithHalf (wtOddHalf s.cfg.wtPeriodSelect) s.wt.period[ch] v))
  | volume (ch : Fin 5) (v : Byte) : Writes s (.wtwVol ch v) (s.setVolume ch (volumeField v))
  | mute (v : Byte) : Writes s (.wtwMute v) (s.setMute (muteField v))

/-- An operation that changes no hardware: its result, and the number of bytes drawn after it. -/
inductive Replies (s : State) : Instr → OpResult → Nat → Prop
  | envelopeWrite (c : Fin 3) (v : Byte) : Replies s (.psgwEnv c v) .ok s.draws
  | ioWrite (c : Fin 2) (v : Byte) :
      Replies s (.psgwIo c v)
        (if s.cfg.psgIoRegsAccepted then .ok else .unknownRegister .psg (BitVec.ofNat 8 (0x0e + c.val))) s.draws
  | unknownWrite (reg v : Byte) : Replies s (.psgwUnk reg v) (.unknownRegister .psg reg) s.draws
  | highWrite (reg v : Byte) :
      Replies s (.wtwHigh reg v) (if wtHighAccepted s.cfg reg then .ok else .unknownRegister .wt reg) s.draws
  | toneLow (c : Fin 3) : Replies s (.psgrTpl c) (.byte (periodLow s.psg.period[c])) s.draws
  | toneHigh (c : Fin 3) : Replies s (.psgrTph c) (.byte (periodHigh s.psg.period[c])) s.draws
  | noisePeriod : Replies s .psgrNp (.byte (zeroExtend8 s.psg.np)) s.draws
  | mix : Replies s .psgrMix (.byte (zeroExtend8 s.psg.mix)) s.draws
  | level (c : Fin 3) : Replies s (.psgrLvl c) (.byte (zeroExtend8 s.psg.level[c])) s.draws
  | envelope (c : Fin 3) : Replies s (.psgrEnv c) (.byte (Config.drawByte s.draws)) (s.draws + 1)
  | io (c : Fin 2) :
      Replies s (.psgrIo c)
        (if s.cfg.psgIoRegsAccepted then .byte (Config.drawByte s.draws)
          else .unknownRegister .psg (BitVec.ofNat 8 (0x0e + c.val)))
        (if s.cfg.psgIoRegsAccepted then s.draws + 1 else s.draws)
  | unknown (reg : Byte) : Replies s (.psgrUnk reg) (.unknownRegister .psg reg) s.draws
  | versionMinor : Replies s .psgrVmin (.byte versionMinor) s.draws
  | versionMajor : Replies s .psgrVmaj (.byte versionMajor) s.draws
  | wave (ch : Fin 5) (j : BitVec 5) : Replies s (.wtrWave ch j) (.byte (s.wt.waveByte ch j)) s.draws
  | wtPeriodEven (ch : Fin 5) :
      Replies s (.wtrPerl ch) (.byte (periodHalf (wtEvenHalf s.cfg.wtPeriodSelect) s.wt.period[ch])) s.draws
  | wtPeriodOdd (ch : Fin 5) :
      Replies s (.wtrPerh ch) (.byte (periodHalf (wtOddHalf s.cfg.wtPeriodSelect) s.wt.period[ch])) s.draws
  | volume (ch : Fin 5) : Replies s (.wtrVol ch) (.byte (zeroExtend8 s.wt.volume[ch])) s.draws
  | mute : Replies s .wtrMute (.byte (zeroExtend8 s.wt.mute)) s.draws
  | high (reg : Byte) :
      Replies s (.wtrHigh reg)
        (if wtHighAccepted s.cfg reg then .byte (Config.drawByte s.draws) else .unknownRegister .wt reg)
        (if wtHighAccepted s.cfg reg then s.draws + 1 else s.draws)

/-- `t` is what the operation `i` makes of `s`. -/
inductive Effect (s : State) : Instr → State → Prop
  | write {i : Instr} {u : State} (h : Writes s i u) : Effect s i { u with result := .ok }
  | reply {i : Instr} {r : OpResult} {d : Nat} (h : Replies s i r d) :
      Effect s i { s with result := r, draws := d }
  | tick : Effect s .tick { s.advanceEngines with result := .sample s.advanceEngines.outputWord }
  | reset : Effect s .reset { s.initialise with result := .none }

theorem exec_of_writes (h : Writes s i u) : exec i s = .next { u with result := .ok } := by
  cases h with
  | toneLow c v => exact exec_psgwTpl c v s
  | toneHigh c v => exact exec_psgwTph c v s
  | level c v => exact exec_psgwLvl c v s
  | wave ch j v => exact exec_wtwWave ch j v s
  | wtPeriodEven ch v => exact exec_wtwPerl ch v s
  | wtPeriodOdd ch v => exact exec_wtwPerh ch v s
  | volume ch v => exact exec_wtwVol ch v s
  | noisePeriod | mix | clock | mute => rfl

theorem exec_of_replies {r : OpResult} {d : Nat} (h : Replies s i r d) :
    exec i s = .next { s with result := r, draws := d } := by
  cases h with
  | envelopeWrite c v => exact exec_psgwEnv c v s
  | ioWrite c v => exact exec_psgwIo c v s
  | toneLow c => exact exec_psgrTpl c s
  | toneHigh c => exact exec_psgrTph c s
  | level c => exact exec_psgrLvl c s
  | envelope c => exact exec_psgrEnv c s
  | io c => exact exec_psgrIo c s
  | wave ch j => exact exec_wtrWave ch j s
  | wtPeriodEven ch => exact exec_wtrPerl ch s
  | wtPeriodOdd ch => exact exec_wtrPerh ch s
  | volume ch => exact exec_wtrVol ch s
  | unknownWrite | highWrite | noisePeriod | mix | unknown | versionMinor | versionMajor | mute | high => rfl

theorem exec_of_effect (h : Effect s i t) : exec i s = .next t := by
  cases h with
  | write h => exact exec_of_writes h
  | reply h => exact exec_of_replies h
  | tick | reset => rfl

/-- Every operation of the hardware completes (R182); the reserved form is none. -/
theorem exists_effect (s : State) (hi : ∀ payload, i ≠ .rsvd payload) : ∃ t, Effect s i t := by
  cases i with
  | psgwTpl0 v => exact ⟨_, .write (.toneLow 0 v)⟩
  | psgwTpl1 v => exact ⟨_, .write (.toneLow 1 v)⟩
  | psgwTpl2 v => exact ⟨_, .write (.toneLow 2 v)⟩
  | psgwTph0 v => exact ⟨_, .write (.toneHigh 0 v)⟩
  | psgwTph1 v => exact ⟨_, .write (.toneHigh 1 v)⟩
  | psgwTph2 v => exact ⟨_, .write (.toneHigh 2 v)⟩
  | psgwNp v => exact ⟨_, .write (.noisePeriod v)⟩
  | psgwMix v => exact ⟨_, .write (.mix v)⟩
  | psgwLvl0 v => exact ⟨_, .write (.level 0 v)⟩
  | psgwLvl1 v => exact ⟨_, .write (.level 1 v)⟩
  | psgwLvl2 v => exact ⟨_, .write (.level 2 v)⟩
  | psgwEnv0 v => exact ⟨_, .reply (.envelopeWrite 0 v)⟩
  | psgwEnv1 v => exact ⟨_, .reply (.envelopeWrite 1 v)⟩
  | psgwEnv2 v => exact ⟨_, .reply (.envelopeWrite 2 v)⟩
  | psgwR0e v => exact ⟨_, .reply (.ioWrite 0 v)⟩
  | psgwR0f v => exact ⟨_, .reply (.ioWrite 1 v)⟩
  | psgwUnk reg v => exact ⟨_, .reply (.unknownWrite reg v)⟩
  | psgwClk v => exact ⟨_, .write (.clock v)⟩
  | psgrTpl0 => exact ⟨_, .reply (.toneLow 0)⟩
  | psgrTpl1 => exact ⟨_, .reply (.toneLow 1)⟩
  | psgrTpl2 => exact ⟨_, .reply (.toneLow 2)⟩
  | psgrTph0 => exact ⟨_, .reply (.toneHigh 0)⟩
  | psgrTph1 => exact ⟨_, .reply (.toneHigh 1)⟩
  | psgrTph2 => exact ⟨_, .reply (.toneHigh 2)⟩
  | psgrNp => exact ⟨_, .reply .noisePeriod⟩
  | psgrMix => exact ⟨_, .reply .mix⟩
  | psgrLvl0 => exact ⟨_, .reply (.level 0)⟩
  | psgrLvl1 => exact ⟨_, .reply (.level 1)⟩
  | psgrLvl2 => exact ⟨_, .reply (.level 2)⟩
  | psgrEnv0 => exact ⟨_, .reply (.envelope 0)⟩
  | psgrEnv1 => exact ⟨_, .reply (.envelope 1)⟩
  | psgrEnv2 => exact ⟨_, .reply (.envelope 2)⟩
  | psgrR0e => exact ⟨_, .reply (.io 0)⟩
  | psgrR0f => exact ⟨_, .reply (.io 1)⟩
  | psgrUnk reg => exact ⟨_, .reply (.unknown reg)⟩
  | psgrVmin => exact ⟨_, .reply .versionMinor⟩
  | psgrVmaj => exact ⟨_, .reply .versionMajor⟩
  | wtwWave0 j v => exact ⟨_, .write (.wave 0 j v)⟩
  | wtwWave1 j v => exact ⟨_, .write (.wave 1 j v)⟩
  | wtwWave2 j v => exact ⟨_, .write (.wave 2 j v)⟩
  | wtwWave3 j v => exact ⟨_, .write (.wave 3 j v)⟩
  | wtwWave4 j v => exact ⟨_, .write (.wave 4 j v)⟩
  | wtwPerl0 v => exact ⟨_, .write (.wtPeriodEven 0 v)⟩
  | wtwPerl1 v => exact ⟨_, .write (.wtPeriodEven 1 v)⟩
  | wtwPerl2 v => exact ⟨_, .write (.wtPeriodEven 2 v)⟩
  | wtwPerl3 v => exact ⟨_, .write (.wtPeriodEven 3 v)⟩
  | wtwPerl4 v => exact ⟨_, .write (.wtPeriodEven 4 v)⟩
  | wtwPerh0 v => exact ⟨_, .write (.wtPeriodOdd 0 v)⟩
  | wtwPerh1 v => exact ⟨_, .write (.wtPeriodOdd 1 v)⟩
  | wtwPerh2 v => exact ⟨_, .write (.wtPeriodOdd 2 v)⟩
  | wtwPerh3 v => exact ⟨_, .write (.wtPeriodOdd 3 v)⟩
  | wtwPerh4 v => exact ⟨_, .write (.wtPeriodOdd 4 v)⟩
  | wtwVol0 v => exact ⟨_, .write (.volume 0 v)⟩
  | wtwVol1 v => exact ⟨_, .write (.volume 1 v)⟩
  | wtwVol2 v => exact ⟨_, .write (.volume 2 v)⟩
  | wtwVol3 v => exact ⟨_, .write (.volume 3 v)⟩
  | wtwVol4 v => exact ⟨_, .write (.volume 4 v)⟩
  | wtwMute v => exact ⟨_, .write (.mute v)⟩
  | wtwHigh reg v => exact ⟨_, .reply (.highWrite reg v)⟩
  | wtrWave0 j => exact ⟨_, .reply (.wave 0 j)⟩
  | wtrWave1 j => exact ⟨_, .reply (.wave 1 j)⟩
  | wtrWave2 j => exact ⟨_, .reply (.wave 2 j)⟩
  | wtrWave3 j => exact ⟨_, .reply (.wave 3 j)⟩
  | wtrWave4 j => exact ⟨_, .reply (.wave 4 j)⟩
  | wtrPerl0 => exact ⟨_, .reply (.wtPeriodEven 0)⟩
  | wtrPerl1 => exact ⟨_, .reply (.wtPeriodEven 1)⟩
  | wtrPerl2 => exact ⟨_, .reply (.wtPeriodEven 2)⟩
  | wtrPerl3 => exact ⟨_, .reply (.wtPeriodEven 3)⟩
  | wtrPerl4 => exact ⟨_, .reply (.wtPeriodEven 4)⟩
  | wtrPerh0 => exact ⟨_, .reply (.wtPeriodOdd 0)⟩
  | wtrPerh1 => exact ⟨_, .reply (.wtPeriodOdd 1)⟩
  | wtrPerh2 => exact ⟨_, .reply (.wtPeriodOdd 2)⟩
  | wtrPerh3 => exact ⟨_, .reply (.wtPeriodOdd 3)⟩
  | wtrPerh4 => exact ⟨_, .reply (.wtPeriodOdd 4)⟩
  | wtrVol0 => exact ⟨_, .reply (.volume 0)⟩
  | wtrVol1 => exact ⟨_, .reply (.volume 1)⟩
  | wtrVol2 => exact ⟨_, .reply (.volume 2)⟩
  | wtrVol3 => exact ⟨_, .reply (.volume 3)⟩
  | wtrVol4 => exact ⟨_, .reply (.volume 4)⟩
  | wtrMute => exact ⟨_, .reply .mute⟩
  | wtrHigh reg => exact ⟨_, .reply (.high reg)⟩
  | tick => exact ⟨_, .tick⟩
  | reset => exact ⟨_, .reset⟩
  | rsvd payload => exact absurd rfl (hi payload)

/-- All that an operation can do to the state. -/
theorem exec_next_iff : exec i s = .next t ↔ Effect s i t := by
  refine ⟨fun h => ?_, exec_of_effect⟩
  have hi : ∀ payload, i ≠ .rsvd payload := by
    rintro payload rfl
    cases h
  obtain ⟨t', heffect⟩ := exists_effect s hi
  rw [exec_of_effect heffect] at h
  cases h
  exact heffect

/-! ### The step -/

theorem step_of_nil (h : s.events = []) : step s = .next s := by
  simp [step, State.nextEvent_of_nil h]

theorem step_of_decode {w : EventWord} {rest : List EventWord} (h : s.events = w :: rest) (hd : decode w = .ok i) :
    step s = exec i { s with events := rest } := by
  simp [step, State.nextEvent_of_cons h, hd]

theorem step_of_decode_error {w : EventWord} {rest : List EventWord} {e : DecodeError} (h : s.events = w :: rest)
    (hd : decode w = .error e) : step s = .refused .reservedEventKind := by
  simp [step, State.nextEvent_of_cons h, hd]

/-- Settles O7: the two branches of a step that go on. -/
theorem stepPerformsTheNextDecodedOperation : Obligations.StepPerformsTheNextDecodedOperation :=
  ⟨fun _ _ _ _ => step_of_decode, fun _ => step_of_nil⟩

/-- Settles O8: the decoder names the reserved kind, and the reserved form has no meaning. -/
theorem reservedKindIsRefused : Obligations.ReservedKindIsRefused :=
  ⟨fun _ _ _ hevents hkind => step_of_decode_error hevents (decode_of_kind_reserved hkind), fun _ _ => rfl⟩

/-- What goes on in a step is an idle machine or the effect of one operation. -/
theorem step_next_cases (h : step s = .next t) :
    (s.events = [] ∧ t = s) ∨
    (∃ w rest i, s.events = w :: rest ∧ decode w = .ok i ∧ Effect { s with events := rest } i t) := by
  obtain ⟨hnil, hstep⟩ | ⟨w, rest, i, hcons, hdecode, hstep⟩ | ⟨w, rest, e, -, -, hstep⟩ := step_cases s
  · rw [hstep] at h
    cases h
    exact .inl ⟨hnil, rfl⟩
  · rw [hstep, exec_next_iff] at h
    exact .inr ⟨w, rest, i, hcons, hdecode, h⟩
  · rw [hstep] at h
    cases h

theorem Replies.draws_bounds {r : OpResult} {d : Nat} (h : Replies s i r d) : s.draws ≤ d ∧ d ≤ s.draws + 1 := by
  cases h with
  | io | high => split <;> omega
  | _ => omega

/-- No operation writes the configuration or the stream, and none draws more than one byte. -/
theorem Effect.environment (h : Effect s i t) :
    t.cfg = s.cfg ∧ t.events = s.events ∧ s.draws ≤ t.draws ∧ t.draws ≤ s.draws + 1 := by
  cases h with
  | write h => cases h <;> exact ⟨rfl, rfl, le_rfl, Nat.le_succ _⟩
  | reply h => exact ⟨rfl, rfl, h.draws_bounds⟩
  | tick | reset => exact ⟨rfl, rfl, le_rfl, Nat.le_succ _⟩

/-- Settles O9: the word leaves the stream in the step, the rest is what an operation leaves alone. -/
theorem stepKeepsConfigurationAndTakesOneEvent : Obligations.StepKeepsConfigurationAndTakesOneEvent := by
  intro s t hstep
  obtain ⟨hnil, rfl⟩ | ⟨w, rest, i, hcons, -, heffect⟩ := step_next_cases hstep
  · exact ⟨rfl, by rw [hnil]; rfl, le_rfl, Nat.le_succ _⟩
  · obtain ⟨hcfg, hevents, hdraws⟩ := heffect.environment
    exact ⟨hcfg, by rw [hevents, hcons]; rfl, hdraws⟩

/-- What a word decodes to is never the reserved form, so it completes. -/
theorem exists_effect_of_decode {w : EventWord} (s : State) (hd : decode w = .ok i) : ∃ t, Effect s i t := by
  apply exists_effect
  rintro payload rfl
  have hwf := (decodedWordEncodesToItsCanonicalWord w _ hd).1
  cases hwf

/-- Settles O10: by induction on the number of steps, each taking one word that is an operation, or idling. -/
theorem noStreamOfOperationsIsEverStopped : Obligations.NoStreamOfOperationsIsEverStopped := by
  intro k
  induction k with
  | zero => exact fun s _ => ⟨s, rfl, rfl, rfl⟩
  | succ k ih =>
    intro s hall
    cases hevents : s.events with
    | nil =>
      obtain ⟨t, hrun, hdrop, hcfg⟩ := ih s hall
      exact ⟨t, by rw [core_run_of_next k (step_of_nil hevents), hrun], by rw [hdrop, hevents]; simp, hcfg⟩
    | cons w rest =>
      rw [hevents] at hall
      obtain ⟨i, hdecode⟩ := decode_of_kind_ne (hall w List.mem_cons_self)
      obtain ⟨u, heffect⟩ := exists_effect_of_decode { s with events := rest } hdecode
      obtain ⟨hucfg, huevents, -⟩ := heffect.environment
      obtain ⟨t, hrun, hdrop, hcfg⟩ := ih u (by rw [huevents]; exact fun w' h => hall w' (List.mem_cons_of_mem w h))
      have hstep : step s = .next u := (step_of_decode hevents hdecode).trans (exec_of_effect heffect)
      exact ⟨t, by rw [core_run_of_next k hstep, hrun], by rw [hdrop, huevents]; rfl, hcfg.trans hucfg⟩

end Sys2Proof.Machine
end

section
/-! Invariants of every step (10_state.md): the caches agree with their registers, the seed is not zero, and the half
of a WT period that no address reaches stays 0. -/

namespace Sys2Proof.Machine

variable {s t u : State} {i : Instr}

/-! ### The caches and the seed -/

theorem levelOut_eq (cfg : Configuration) (l : BitVec 5) :
    levelOut cfg l = cfg.volumeTable[1 + 2 * (l.toNat % 16)]'(by omega) := by
  simp only [levelOut, Params.volumeEntry, levelVolume_toNat]

theorem setTonePeriod_consistent (hs : s.Consistent) (c : Fin 3) (p : Period) : (s.setTonePeriod c p).Consistent where
  toneLimits d := by
    simp only [State.setTonePeriod_psg_limit, State.setTonePeriod_psg_period, vector_set_get]
    split
    · exact toneLimit_toNat s.cfg p
    · exact hs.toneLimits d
  toneOuts := hs.toneOuts
  noiseLimits := hs.noiseLimits
  wtLimits := hs.wtLimits
  seedNonZero := hs.seedNonZero

theorem setNoisePeriod_consistent (hs : s.Consistent) (np : BitVec 5) : (s.setNoisePeriod np).Consistent where
  toneLimits := hs.toneLimits
  toneOuts := hs.toneOuts
  noiseLimits := noiseLimit_toNat s.cfg np
  wtLimits := hs.wtLimits
  seedNonZero := hs.seedNonZero

theorem setLevel_consistent (hs : s.Consistent) (c : Fin 3) (l : BitVec 5) : (s.setLevel c l).Consistent where
  toneLimits := hs.toneLimits
  toneOuts d := by
    rw [← levelOut_eq, State.setLevel_psg_out, State.setLevel_psg_level, vector_set_get, vector_set_get]
    split
    · rfl
    · rw [levelOut_eq]
      exact hs.toneOuts d
  noiseLimits := hs.noiseLimits
  wtLimits := hs.wtLimits
  seedNonZero := hs.seedNonZero

theorem setWtPeriod_consistent (hs : s.Consistent) (ch : Fin 5) (p : Period) : (s.setWtPeriod ch p).Consistent where
  toneLimits := hs.toneLimits
  toneOuts := hs.toneOuts
  noiseLimits := hs.noiseLimits
  wtLimits d := by
    simp only [State.setWtPeriod_wt_limit, State.setWtPeriod_wt_period, vector_set_get]
    split
    · exact wtLimit_toNat s.cfg p
    · exact hs.wtLimits d
  seedNonZero := hs.seedNonZero

/-- A TICK writes no register and no cache, and no shift makes the seed zero. -/
theorem advanceEngines_consistent (hs : s.Consistent) : s.advanceEngines.Consistent where
  toneLimits := hs.toneLimits
  toneOuts := hs.toneOuts
  noiseLimits := hs.noiseLimits
  wtLimits := hs.wtLimits
  seedNonZero := lfsrAdvance_ne_zero s.cfg _ hs.seedNonZero

theorem resetWith_consistent (c : Configuration) : (State.resetWith c).Consistent where
  toneLimits d := by simp [State.resetWith, Psg.initial]
  toneOuts d := by
    rw [← levelOut_eq]
    simp [State.resetWith, Psg.initial, levelOut, levelVolume]
  noiseLimits := by simp [State.resetWith, Psg.initial]
  wtLimits d := by simp [State.resetWith, Wt.initial]
  seedNonZero := configuration_seed c

/-- The model's own fields other than the configuration take no part in consistency. -/
theorem State.Consistent.withEnvironment (hs : s.Consistent) (es : List EventWord) (r : OpResult) (d : Nat) :
    { s with events := es, result := r, draws := d }.Consistent where
  toneLimits := hs.toneLimits
  toneOuts := hs.toneOuts
  noiseLimits := hs.noiseLimits
  wtLimits := hs.wtLimits
  seedNonZero := hs.seedNonZero

theorem Writes.consistent (h : Writes s i u) (hs : s.Consistent) : u.Consistent := by
  cases h with
  | toneLow c v | toneHigh c v => exact setTonePeriod_consistent hs c _
  | noisePeriod v => exact setNoisePeriod_consistent hs _
  | level c v => exact setLevel_consistent hs c _
  | wtPeriodEven ch v | wtPeriodOdd ch v => exact setWtPeriod_consistent hs ch _
  | mix | clock | wave | volume | mute =>
    exact ⟨hs.toneLimits, hs.toneOuts, hs.noiseLimits, hs.wtLimits, hs.seedNonZero⟩

theorem Effect.consistent (h : Effect s i t) (hs : s.Consistent) : t.Consistent := by
  cases h with
  | write h => exact (h.consistent hs).withEnvironment _ _ _
  | reply h => exact hs.withEnvironment _ _ _
  | tick => exact (advanceEngines_consistent hs).withEnvironment _ _ _
  | reset => exact (resetWith_consistent s.cfg).withEnvironment _ _ _

/-- Settles O11: the invariant through each case of what an operation can do. -/
theorem stepKeepsCachesAndSeedConsistent : Obligations.StepKeepsCachesAndSeedConsistent := by
  intro s t hs hstep
  obtain ⟨-, rfl⟩ | ⟨w, rest, i, -, -, heffect⟩ := step_next_cases hstep
  · exact hs
  · exact heffect.consistent (hs.withEnvironment rest s.result s.draws)

/-- Settles O12: the base of the invariant, for every configuration. -/
theorem resetStateIsConsistent : Obligations.ResetStateIsConsistent :=
  ⟨resetWith_consistent, resetWith_consistent _, fun s =>
    ⟨_, exec_of_effect .reset, (resetWith_consistent s.cfg).withEnvironment _ _ _⟩⟩

/-! ### The half of a WT period that no address reaches (entry U3) -/

theorem wtEvenHalf_upstreamLiteral (half : Config.PeriodHalf) : wtEvenHalf (.upstreamLiteral half) = half := rfl

theorem wtOddHalf_upstreamLiteral (half : Config.PeriodHalf) : wtOddHalf (.upstreamLiteral half) = half := rfl

theorem setWtPeriod_period_cases (s : State) (ch d : Fin 5) (p : Period) :
    (s.setWtPeriod ch p).wt.period[d] = s.wt.period[d] ∨
    (d = ch ∧ (s.setWtPeriod ch p).wt.period[d] = p) := by
  rw [State.setWtPeriod_wt_period, vector_set_get]
  split
  next heq => exact .inr ⟨heq, rfl⟩
  next => exact .inl rfl

/-- Under the literal selection a write changes the named half of a WT period, or leaves that period alone. -/
theorem Writes.wtPeriod_cases {half : Config.PeriodHalf} (h : Writes s i u)
    (hsel : s.cfg.wtPeriodSelect = .upstreamLiteral half) (d : Fin 5) :
    u.wt.period[d] = s.wt.period[d] ∨ ∃ v, u.wt.period[d] = periodWithHalf half s.wt.period[d] v := by
  cases h with
  | wtPeriodEven ch v =>
    rw [hsel, wtEvenHalf_upstreamLiteral]
    obtain hsame | ⟨rfl, hset⟩ := setWtPeriod_period_cases s ch d (periodWithHalf half s.wt.period[ch] v)
    · exact .inl hsame
    · exact .inr ⟨v, hset⟩
  | wtPeriodOdd ch v =>
    rw [hsel, wtOddHalf_upstreamLiteral]
    obtain hsame | ⟨rfl, hset⟩ := setWtPeriod_period_cases s ch d (periodWithHalf half s.wt.period[ch] v)
    · exact .inl hsame
    · exact .inr ⟨v, hset⟩
  | _ => exact .inl rfl

theorem Effect.wtPeriod_cases {half : Config.PeriodHalf} (h : Effect s i t)
    (hsel : s.cfg.wtPeriodSelect = .upstreamLiteral half) (d : Fin 5) :
    t.wt.period[d] = s.wt.period[d] ∨ (∃ v, t.wt.period[d] = periodWithHalf half s.wt.period[d] v) ∨
    t.wt.period[d] = 0 := by
  cases h with
  | write h => exact (h.wtPeriod_cases hsel d).imp_right .inl
  | reply | tick => exact .inl rfl
  | reset => exact .inr (.inr (by simp [Wt.initial]))

/-- A property of a WT period that 0 has and that writes of the named half keep is kept by every step. -/
theorem step_keeps_wtPeriod {half : Config.PeriodHalf} {P : Period → Prop} (hstep : step s = .next t)
    (hsel : s.cfg.wtPeriodSelect = .upstreamLiteral half) (hzero : P 0)
    (hkeep : ∀ p v, P p → P (periodWithHalf half p v)) (hs : ∀ ch : Fin 5, P s.wt.period[ch]) :
    ∀ ch : Fin 5, P t.wt.period[ch] := by
  intro ch
  obtain ⟨-, rfl⟩ | ⟨w, rest, i, -, -, heffect⟩ := step_next_cases hstep
  · exact hs ch
  · obtain hsame | ⟨v, hset⟩ | hreset := heffect.wtPeriod_cases hsel ch
    · exact hsame ▸ hs ch
    · exact hset ▸ hkeep _ v (hs ch)
    · exact hreset ▸ hzero

/-- Settles O13: a write of one half leaves the other as it is, and RESET makes both 0. -/
theorem upstreamLiteralLeavesTheOtherHalfZero : Obligations.UpstreamLiteralLeavesTheOtherHalfZero := by
  refine fun s t hstep => ⟨fun hsel hs => ?_, fun hsel hs => ?_⟩
  · refine step_keeps_wtPeriod (P := fun p => p.toNat / 256 = 0) hstep hsel rfl (fun p v hp => ?_) hs
    rw [periodWithHalf, periodWithLow_toNat]
    have := v.isLt
    omega
  · refine step_keeps_wtPeriod (P := fun p => p.toNat % 256 = 0) hstep hsel rfl (fun p v hp => ?_) hs
    rw [periodWithHalf, periodWithHigh_toNat]
    omega

end Sys2Proof.Machine
end

section
/-! Which operation may change what (10_state.md, 20_memory.md): the generators, the host registers, the reads, the
failed operation, and the blend. -/

namespace Sys2Proof.Machine

variable {s t u : State} {i : Instr}

/-- Settles O14: no register write reaches a generator. -/
theorem onlyTickAndResetChangeTheGenerators : Obligations.OnlyTickAndResetChangeTheGenerators := by
  intro i s t hexec htick hreset
  cases exec_next_iff.mp hexec with
  | write h => cases h <;> exact ⟨rfl, rfl, rfl, rfl, rfl, rfl⟩
  | reply h => exact ⟨rfl, rfl, rfl, rfl, rfl, rfl⟩
  | tick => exact absurd rfl htick
  | reset => exact absurd rfl hreset

/-! ### The host registers: each is written by its own operation alone -/

/-- Where a vector differs after one entry is set, that entry is the one. -/
theorem eq_of_set_ne {α : Type} {n : Nat} {x : Vector α n} {c d : Fin n} {v : α} (h : (x.set c v)[d] ≠ x[d]) :
    d = c := by
  by_contra hne
  rw [vector_set_get, if_neg hne] at h
  exact h rfl

theorem Writes.of_tonePeriod_ne {c : Fin 3} (h : Writes s i u) (hne : u.psg.period[c] ≠ s.psg.period[c]) :
    ∃ v, i = .psgwTpl c v ∨ i = .psgwTph c v := by
  cases h with
  | toneLow d v => exact ⟨v, .inl (by rw [eq_of_set_ne hne])⟩
  | toneHigh d v => exact ⟨v, .inr (by rw [eq_of_set_ne hne])⟩
  | _ => exact absurd rfl hne

theorem Writes.of_level_ne {c : Fin 3} (h : Writes s i u) (hne : u.psg.level[c] ≠ s.psg.level[c]) :
    ∃ v, i = .psgwLvl c v := by
  cases h with
  | level d v => exact ⟨v, by rw [eq_of_set_ne hne]⟩
  | _ => exact absurd rfl hne

theorem Writes.of_np_ne (h : Writes s i u) (hne : u.psg.np ≠ s.psg.np) : ∃ v, i = .psgwNp v := by
  cases h with
  | noisePeriod v => exact ⟨v, rfl⟩
  | _ => exact absurd rfl hne

theorem Writes.of_mix_ne (h : Writes s i u) (hne : u.psg.mix ≠ s.psg.mix) : ∃ v, i = .psgwMix v := by
  cases h with
  | mix v => exact ⟨v, rfl⟩
  | _ => exact absurd rfl hne

theorem Writes.of_clk_ne (h : Writes s i u) (hne : u.clk ≠ s.clk) : ∃ v, i = .psgwClk v := by
  cases h with
  | clock v => exact ⟨v, rfl⟩
  | _ => exact absurd rfl hne

theorem Writes.of_waveByte_ne {ch : Fin 5} {j : BitVec 5} (h : Writes s i u)
    (hne : u.wt.waveByte ch j ≠ s.wt.waveByte ch j) : ∃ v, i = .wtwWave ch j v := by
  cases h with
  | wave d k v =>
    rw [setWave_waveByte] at hne
    obtain ⟨rfl, rfl⟩ : ch = d ∧ j = k := by
      by_contra hother
      exact hne (if_neg hother)
    exact ⟨v, rfl⟩
  | _ => exact absurd rfl hne

theorem Writes.of_wtPeriod_ne {ch : Fin 5} (h : Writes s i u) (hne : u.wt.period[ch] ≠ s.wt.period[ch]) :
    ∃ v, i = .wtwPerl ch v ∨ i = .wtwPerh ch v := by
  cases h with
  | wtPeriodEven d v => exact ⟨v, .inl (by rw [eq_of_set_ne hne])⟩
  | wtPeriodOdd d v => exact ⟨v, .inr (by rw [eq_of_set_ne hne])⟩
  | _ => exact absurd rfl hne

theorem Writes.of_volume_ne {ch : Fin 5} (h : Writes s i u) (hne : u.wt.volume[ch] ≠ s.wt.volume[ch]) :
    ∃ v, i = .wtwVol ch v := by
  cases h with
  | volume d v => exact ⟨v, by rw [eq_of_set_ne hne]⟩
  | _ => exact absurd rfl hne

theorem Writes.of_mute_ne (h : Writes s i u) (hne : u.wt.mute ≠ s.wt.mute) : ∃ v, i = .wtwMute v := by
  cases h with
  | mute v => exact ⟨v, rfl⟩
  | _ => exact absurd rfl hne

/-- Settles O15: a reply and a TICK write no register, and a write is its own register's. -/
theorem hostRegistersChangeOnlyByTheirOwnWrite : Obligations.HostRegistersChangeOnlyByTheirOwnWrite := by
  intro i s t hexec hreset
  cases exec_next_iff.mp hexec with
  | write h =>
    exact ⟨fun _ => h.of_tonePeriod_ne, fun _ => h.of_level_ne, h.of_np_ne, h.of_mix_ne, h.of_clk_ne,
      fun _ _ => h.of_waveByte_ne, fun _ => h.of_wtPeriod_ne, fun _ => h.of_volume_ne, h.of_mute_ne⟩
  | reply | tick =>
    exact ⟨fun _ => absurd rfl, fun _ => absurd rfl, absurd rfl, absurd rfl, absurd rfl, fun _ _ => absurd rfl,
      fun _ => absurd rfl, fun _ => absurd rfl, absurd rfl⟩
  | reset => exact absurd rfl hreset

/-! ### The reads -/

/-- The own word of what a read word decodes to has the read bit set. -/
theorem rw_encode_of_isRead {w : EventWord} (hw : IsRead w) (hd : decode w = .ok i) : Event.rw (encode i) = 1 := by
  obtain ⟨hkind, hrw⟩ := hw
  rw [(decodedWordEncodesToItsCanonicalWord w i hd).2]
  simp [Event.canonical, hkind, hrw]

/-- A register write has a word with the read bit clear. -/
theorem Writes.rw_encode (h : Writes s i u) : Event.rw (encode i) = 0 := by
  cases h with
  | toneLow c | toneHigh c | level c => fin_cases c <;> exact Event.rw_pack _ _ _ _ _
  | wave ch | wtPeriodEven ch | wtPeriodOdd ch | volume ch => fin_cases ch <;> exact Event.rw_pack _ _ _ _ _
  | noisePeriod | mix | clock | mute => exact Event.rw_pack _ _ _ _ _

/-- A read returns a byte or the failure. -/
theorem Replies.result_of_read {r : OpResult} {d : Nat} (h : Replies s i r d) (hrw : Event.rw (encode i) = 1) :
    (∃ b, r = .byte b) ∨ ∃ cs reg, r = .unknownRegister cs reg := by
  have hnot : Event.rw (encode i) ≠ 0 := by rw [hrw]; decide
  cases h with
  | envelopeWrite c => exact absurd (by fin_cases c <;> exact Event.rw_pack _ _ _ _ _) hnot
  | ioWrite c => exact absurd (by fin_cases c <;> exact Event.rw_pack _ _ _ _ _) hnot
  | unknownWrite | highWrite => exact absurd (Event.rw_pack _ _ _ _ _) hnot
  | io | high =>
    split
    · exact .inl ⟨_, rfl⟩
    · exact .inr ⟨_, _, rfl⟩
  | unknown => exact .inr ⟨_, _, rfl⟩
  | _ => exact .inl ⟨_, rfl⟩

/-- A read replies: of the four effects only the reply has a word with the read bit set. -/
theorem exists_replies_of_read {w : EventWord} (s : State) (hw : IsRead w) (hd : decode w = .ok i) :
    ∃ r d, Replies s i r d ∧ ((∃ b, r = .byte b) ∨ ∃ cs reg, r = .unknownRegister cs reg) := by
  have hrw := rw_encode_of_isRead hw hd
  have hnot : Event.rw (encode i) ≠ 0 := by rw [hrw]; decide
  obtain ⟨t, heffect⟩ := exists_effect_of_decode s hd
  cases heffect with
  | write h => exact absurd h.rw_encode hnot
  | reply h => exact ⟨_, _, h, h.result_of_read hrw⟩
  | tick | reset => exact absurd (Event.rw_pack _ _ _ _ _) hnot

/-- Settles O16: a read is a reply, and its failure is the one that the table of R181 names. -/
theorem readsChangeNoHardwareState : Obligations.ReadsChangeNoHardwareState := by
  intro w i s hw hdecode
  obtain ⟨r, d, hreply, hresult⟩ := exists_replies_of_read s hw hdecode
  have hexec := exec_of_replies hreply
  refine ⟨_, hexec, ⟨rfl, rfl, rfl⟩, rfl, rfl, hresult.imp_right fun hfail => ?_⟩
  obtain ⟨hiff, hnamed⟩ := unknownRegisterRaisedExactlyByTheTable w i s _ hdecode hexec
  exact congrArg State.result (hnamed (hiff.mp hfail))

/-- What an operation replies does not depend on what a TICK changes. -/
theorem Replies.advanceEngines {r r' : OpResult} {d : Nat} (h : Replies s i r d) :
    Replies { s.advanceEngines with result := r' } i r d := by
  cases h <;> constructor

/-- Settles O17: the same reply from before and from after the TICK. -/
theorem tickDoesNotChangeWhatAReadReturns : Obligations.TickDoesNotChangeWhatAReadReturns := by
  intro w i s t hw hdecode htick
  rw [exec_tick_next] at htick
  subst htick
  obtain ⟨r, d, hreply, -⟩ := exists_replies_of_read s hw hdecode
  exact ⟨_, _, exec_of_replies hreply, exec_of_replies hreply.advanceEngines, rfl⟩

/-! ### The failed operation (R185) -/

/-- With a word to come, a step does not depend on the result of the operation before it. -/
theorem step_withResult (hs : s.events ≠ []) (r : OpResult) : step { s with result := r } = step s := by
  obtain ⟨w, rest, hcons⟩ := List.exists_cons_of_ne_nil hs
  have hcons' : { s with result := r }.events = w :: rest := hcons
  cases hd : decode w with
  | ok i =>
    rw [step_of_decode hcons' hd, step_of_decode hcons hd]
    exact exec_withResult i { s with events := rest } r
  | error e => rw [step_of_decode_error hcons' hd, step_of_decode_error hcons hd]

/-- A run of at least one step is decided by its first step. -/
theorem core_run_congr {k : Nat} (h : step s = step t) :
    Host.Core.run Sys2Proof.core (k + 1) s = Host.Core.run Sys2Proof.core (k + 1) t := by
  have h' : Sys2Proof.core.step s = Sys2Proof.core.step t := h
  simp only [Host.Core.run, h']

/-- Settles O19: the failure leaves its result alone, and the next step does not read it. -/
theorem failedOperationLeavesNoTrace : Obligations.FailedOperationLeavesNoTrace := by
  refine ⟨exec_withResult, fun s w rest i t cs reg k hdecode hexec hfail hrest => ?_⟩
  obtain ⟨hiff, hnamed⟩ := unknownRegisterRaisedExactlyByTheTable w i _ t hdecode hexec
  have ht := hnamed (hiff.mp ⟨cs, reg, hfail⟩)
  have hstep : step { s with events := w :: rest } = .next t := (step_of_decode rfl hdecode).trans hexec
  rw [core_run_of_next (k + 1) hstep, ht]
  exact core_run_congr (step_withResult (s := { s with events := rest }) hrest _)

end Sys2Proof.Machine

/-! ### The blend (decision D25) -/

namespace Sys2Proof

/-- The configuration with another blend: no rule of R5 is about the blend. -/
def Configuration.withBlend (c : Configuration) (b : Config.Blend) : Configuration where
  toParams := { c.toParams with blend := b }
  ok := c.ok

theorem Configuration.eq_withBlend {c c' : Configuration} {b : Config.Blend}
    (h : c'.toParams = { c.toParams with blend := b }) : c' = c.withBlend b := by
  cases c'
  cases h
  rfl

namespace Machine

variable {s t u : State} {i : Instr}

/-- The machine with another blend and the same of everything else. -/
def State.withBlend (s : State) (b : Config.Blend) : State := { s with cfg := s.cfg.withBlend b }

theorem Writes.withBlend (h : Writes s i u) (b : Config.Blend) : Writes (s.withBlend b) i (u.withBlend b) := by
  cases h <;> constructor

theorem Replies.withBlend {r : OpResult} {d : Nat} (h : Replies s i r d) (b : Config.Blend) :
    Replies (s.withBlend b) i r d := by
  cases h <;> constructor

/-- An operation does the same under another blend, but for the word of a TICK. -/
theorem Effect.withBlend (h : Effect s i t) (b : Config.Blend) :
    ∃ r, Effect (s.withBlend b) i { t.withBlend b with result := r } ∧ (i ≠ .tick → r = t.result) := by
  cases h with
  | write h =>
    have hwrite := Effect.write (h.withBlend b)
    exact ⟨_, hwrite, fun _ => rfl⟩
  | reply h => exact ⟨_, .reply (h.withBlend b), fun _ => rfl⟩
  | tick => exact ⟨_, .tick, absurd rfl⟩
  | reset => exact ⟨_, .reset, fun _ => rfl⟩

/-- Settles O52: each case of what an operation can do, beside the same case under the other blend. -/
theorem engineStateIsIndependentOfTheBlend : Obligations.EngineStateIsIndependentOfTheBlend := by
  intro s s' i b hcfg hs' t hexec
  have hblend : s' = s.withBlend b := by
    rw [hs', Configuration.eq_withBlend hcfg]
    rfl
  obtain ⟨r, heffect, hresult⟩ := (exec_next_iff.mp hexec).withBlend b
  rw [hblend]
  exact ⟨_, exec_of_effect heffect, ⟨rfl, rfl, rfl⟩, rfl, rfl, hresult⟩

end Machine

end Sys2Proof
end

section
/-! The PSG registers (40_psg_registers.md): the noise period, the mixer, the reserved bit of a level, the I/O
addresses, the clock selector, and the reads. -/

namespace Sys2Proof.Machine

variable {s t u : State}

/-! ### The fields of a written byte as a read gives them back (decision D16) -/

/-- The low `n` bits of a byte, zero-extended, are the byte masked to them. -/
theorem zeroExtend8_extractLsb' {n : Nat} (hn : n ≤ 8) (v : Byte) :
    zeroExtend8 (v.extractLsb' 0 n) = v &&& BitVec.ofNat 8 (2 ^ n - 1) := by
  have hmask : 2 ^ n - 1 < 2 ^ 8 :=
    Nat.lt_of_lt_of_le (Nat.sub_lt (Nat.two_pow_pos n) Nat.one_pos) (Nat.pow_le_pow_right (by decide) hn)
  apply BitVec.eq_of_toNat_eq
  rw [zeroExtend8_toNat hn, BitVec.extractLsb'_toNat, Nat.shiftRight_zero, BitVec.toNat_and, BitVec.toNat_ofNat,
    Nat.mod_eq_of_lt hmask, Nat.and_two_pow_sub_one_eq_mod]

/-- A field as a read returns it is the byte of its number. -/
theorem zeroExtend8_eq_ofNat {n : Nat} (hn : n ≤ 8) (f : BitVec n) : zeroExtend8 f = BitVec.ofNat 8 f.toNat :=
  byte_eq_ofNat (zeroExtend8_toNat hn f)

theorem periodLow_eq_ofNat (p : Period) : periodLow p = BitVec.ofNat 8 (p.toNat % 256) :=
  byte_eq_ofNat (periodLow_toNat p)

theorem periodHigh_eq_ofNat (p : Period) : periodHigh p = BitVec.ofNat 8 (p.toNat / 256) :=
  byte_eq_ofNat (periodHigh_toNat p)

/-! ### The noise period and the mixer (R82, R83) -/

/-- Settles O22: the one store of the noise period and its limit. -/
theorem noisePeriodWriteSetsPeriodAndLimit : Obligations.NoisePeriodWriteSetsPeriodAndLimit := by
  intro v s
  refine ⟨by rw [decode_psgW]; rfl, _, exec_of_writes (.noisePeriod v), rfl, noisePeriodField_toNat v, ?_, rfl⟩
  rw [State.setNoisePeriod_psg_nlimit, noiseLimit_toNat, noisePeriodField_toNat]

theorem mixBitEnables_eq (m : Config.MixSetMeans) (bit : Bool) :
    mixBitEnables m bit = (bit == decide (m = .enable)) := by
  cases m <;> cases bit <;> rfl

/-- The mixer field keeps the six bits that the enables read. -/
theorem mixField_getLsbD (v : Byte) {j : Nat} (hj : j < 6) : (mixField v).getLsbD j = v.getLsbD j := by
  simp [mixField, hj]

/-- Settles O23: the one store of the mixer, read bit by bit through the polarity. -/
theorem mixerWriteSetsTheEnables : Obligations.MixerWriteSetsTheEnables := by
  intro v s
  refine ⟨by rw [decode_psgW]; rfl, _, exec_of_writes (.mix v), rfl, mixField_toNat v, fun c => ⟨?_, ?_⟩, rfl⟩
  · rw [toneEnabled, State.setMix_psg_mix, mixField_getLsbD v (by omega), mixBitEnables_eq, State.setMix_cfg]
  · rw [noiseEnabled, State.setMix_psg_mix, mixField_getLsbD v (by omega), mixBitEnables_eq, State.setMix_cfg]

/-! ### Level bit 4 (R88) -/

theorem levelField_xor_bitFour (v : Byte) : levelField (v ^^^ 0x10) = levelField v ^^^ 0x10 := by
  rw [levelField, BitVec.extractLsb'_xor]
  rfl

/-- Bit 4 takes no part in the volume. -/
theorem levelVolume_xor_bitFour (l : BitVec 5) : levelVolume (l ^^^ 0x10) = levelVolume l := by
  rw [levelVolume, BitVec.extractLsb'_xor]
  exact BitVec.xor_zero

/-- Settles O25: the two writes store levels that differ in bit 4 alone, and the read gives the level back. -/
theorem levelBitFourIsStoredAndIgnored : Obligations.LevelBitFourIsStoredAndIgnored := by
  intro c v s
  refine ⟨_, _, _, exec_of_writes (.level c v), exec_of_writes (.level c (v ^^^ 0x10)), ?_, ?_, ?_,
    exec_of_replies (.level c), ?_⟩
  · simp only [State.setLevel_psg_out, levelOut, levelField_xor_bitFour, levelVolume_xor_bitFour]
  · simp only [State.setLevel_psg_level, vector_set_get, if_true, levelField_xor_bitFour, BitVec.xor_assoc,
      BitVec.xor_self]
    exact BitVec.xor_zero.symm
  · simp only [State.setLevel_psg_level, vector_set_get]
    simp [levelField]
  · simp only [State.setLevel_psg_level, vector_set_get]
    exact congrArg OpResult.byte (zeroExtend8_extractLsb' (by decide) v)

/-! ### The addresses with no register of their own (R85, R91, R105) -/

theorem decode_psgW_io (c : Fin 2) (v : Byte) :
    decode (Event.psgW (BitVec.ofNat 8 (0x0e + c.val)) v) = .ok (.psgwIo c v) := by
  rw [decode_psgW]
  fin_cases c <;> rfl

theorem decode_psgR_io (c : Fin 2) : decode (Event.psgR (BitVec.ofNat 8 (0x0e + c.val))) = .ok (.psgrIo c) := by
  rw [decode_psgR]
  fin_cases c <;> rfl

theorem decode_psgR_envelope (c : Fin 3) :
    decode (Event.psgR (BitVec.ofNat 8 (0x0b + c.val))) = .ok (.psgrEnv c) := by
  rw [decode_psgR]
  fin_cases c <;> rfl

/-- Settles O27: the accepted flag decides the result and nothing else. -/
theorem ioRegisterWritesFollowTheParameter : Obligations.IoRegisterWritesFollowTheParameter := by
  intro c v s
  exact ⟨decode_psgW_io c v, _, exec_of_replies (.ioWrite c v), fun hacc => by simp [hacc],
    fun hrej => by simp [hrej]⟩

/-- Settles O29: 0xfe is the last address of the unknown block. -/
theorem writeToFeFailsAndKeepsTheClock : Obligations.WriteToFeFailsAndKeepsTheClock := by
  intro v s
  refine ⟨?_, ?_⟩
  · rw [decode_psgW, decodePsgWrite_unknown v (by decide) (by decide)]
  · rw [exec_psgwUnk, State.raiseUnknownRegister_next]

/-- Settles O34: the drawn byte, or the failure where the address is not accepted. -/
theorem statelessPsgReadsDrawAByte : Obligations.StatelessPsgReadsDrawAByte :=
  ⟨fun c _ => ⟨decode_psgR_envelope c, exec_of_replies (.envelope c)⟩, fun c _ => ⟨decode_psgR_io c, _,
    exec_of_replies (.io c), fun hacc => by simp [hacc], fun hrej => by simp [hrej]⟩⟩

/-! ### The reads of registers (R101, R102) -/

theorem decode_psgR_tonePair (c : Fin 3) :
    decode (Event.psgR (BitVec.ofNat 8 (2 * c.val))) = .ok (.psgrTpl c) ∧
    decode (Event.psgR (BitVec.ofNat 8 (2 * c.val + 1))) = .ok (.psgrTph c) := by
  rw [decode_psgR, decode_psgR]
  fin_cases c <;> exact ⟨rfl, rfl⟩

/-- Settles O31: the two halves as numbers. -/
theorem tonePeriodReadsReturnItsHalves : Obligations.TonePeriodReadsReturnItsHalves := by
  intro c s
  obtain ⟨hlow, hhigh⟩ := decode_psgR_tonePair c
  rw [← periodLow_eq_ofNat, ← periodHigh_eq_ofNat]
  exact ⟨hlow, hhigh, exec_of_replies (.toneLow c), exec_of_replies (.toneHigh c)⟩

/-- Settles O32: a read gives the field as a number, and a written field is the masked byte. -/
theorem noiseMixerAndLevelReadBack : Obligations.NoiseMixerAndLevelReadBack := by
  refine ⟨fun s => ?_, fun s => ?_, fun c s => ?_, fun v s => ?_, fun v s => ?_⟩
  · rw [← zeroExtend8_eq_ofNat (by decide)]
    exact exec_of_replies .noisePeriod
  · rw [← zeroExtend8_eq_ofNat (by decide)]
    exact exec_of_replies .mix
  · rw [← zeroExtend8_eq_ofNat (by decide)]
    exact exec_of_replies (.level c)
  · exact ⟨_, _, exec_of_writes (.noisePeriod v), exec_of_replies .noisePeriod,
      congrArg OpResult.byte (zeroExtend8_extractLsb' (by decide) v)⟩
  · exact ⟨_, _, exec_of_writes (.mix v), exec_of_replies .mix,
      congrArg OpResult.byte (zeroExtend8_extractLsb' (by decide) v)⟩

/-! ### The clock selector (R89) -/

theorem exec_tick_noise (h : exec .tick s = .next u) :
    u.psg.ncount = (oscAdvance s.psg.ncount s.psg.nlimit s.clockStep).1 ∧
    u.psg.seed = lfsrAdvance s.cfg (oscAdvance s.psg.ncount s.psg.nlimit s.clockStep).2 s.psg.seed := by
  rw [exec_tick_next] at h
  subst h
  exact ⟨rfl, rfl⟩

theorem exec_tick_wtChannel (h : exec .tick s = .next u) (ch : Fin 5) :
    u.wt.count[ch] = (oscAdvance s.wt.count[ch] s.wt.limit[ch] s.clockStep).1 ∧
    u.wt.offset[ch] =
      s.wt.offset[ch] + BitVec.ofNat 5 (oscAdvance s.wt.count[ch] s.wt.limit[ch] s.clockStep).2 := by
  rw [exec_tick_wt h]
  simp [Wt.channelAdvance]

theorem exec_tick_clockStep (h : exec .tick s = .next u) : u.clockStep = s.clockStep := by
  rw [exec_tick_next] at h
  subst h
  rfl

/-- A period write computes its limits from the registers of its own engine, not from the clock selector. -/
theorem exists_writes_of_isPeriodWrite {i : Instr} (hi : IsPeriodWrite i) (s : State) :
    ∃ u, Writes s i u ∧ ∀ k r, ∃ u', Writes { s with clk := k, result := r } i u' ∧
      u'.psg = u.psg ∧ u'.wt = u.wt := by
  obtain ⟨c, v, rfl | rfl⟩ | ⟨v, rfl⟩ | ⟨ch, v, rfl | rfl⟩ := hi
  · exact ⟨_, .toneLow c v, fun _ _ => ⟨_, .toneLow c v, rfl, rfl⟩⟩
  · exact ⟨_, .toneHigh c v, fun _ _ => ⟨_, .toneHigh c v, rfl, rfl⟩⟩
  · exact ⟨_, .noisePeriod v, fun _ _ => ⟨_, .noisePeriod v, rfl, rfl⟩⟩
  · exact ⟨_, .wtPeriodEven ch v, fun _ _ => ⟨_, .wtPeriodEven ch v, rfl, rfl⟩⟩
  · exact ⟨_, .wtPeriodOdd ch v, fun _ _ => ⟨_, .wtPeriodOdd ch v, rfl, rfl⟩⟩

/-- Settles O30: the selector is stored, and the next TICK takes its step from it for all nine generators. -/
theorem clockWriteSelectsTheStep : Obligations.ClockWriteSelectsTheStep := by
  intro v s
  refine ⟨by rw [decode_psgW]; rfl, _, exec_of_writes (.clock v), ?_, ?_,
    ⟨_, exec_of_replies .versionMajor, rfl⟩, fun i hi => ?_, fun u htick => ?_⟩
  · rw [← clockField_cases]
    rfl
  · by_cases hv : v.toNat = 0 <;> simp [State.clockStep, clockField_cases, hv]
  · obtain ⟨a, ha, hany⟩ := exists_writes_of_isPeriodWrite hi s
    obtain ⟨b, hb, hpsg, hwt⟩ := hany (clockField v) .ok
    exact ⟨_, _, exec_of_writes ha, exec_of_writes hb, by simp only [hpsg], by simp only [hpsg], by simp only [hwt]⟩
  · exact ⟨exec_tick_clockStep htick, fun c => (exec_tick_tone htick c).1, (exec_tick_noise htick).1,
      fun ch => (exec_tick_wtChannel htick ch).1⟩

end Sys2Proof.Machine
end

section
/-! The WT registers (42_wt_registers.md): the waveform tables, the period pairs under both selections, the volume,
and the addresses above the registers. -/

namespace Sys2Proof.Machine

variable {s t u : State}

/-! ### The waveform tables (R130, R142) -/

theorem decode_wtW_wave (ch : Fin 5) (i : BitVec 5) (v : Byte) :
    decode (Event.wtW (BitVec.ofNat 8 (32 * ch.val + i.toNat)) v) = .ok (.wtwWave ch i v) := by
  have hreg : (BitVec.ofNat 8 (32 * ch.val + i.toNat)).toNat = 32 * ch.val + i.toNat := by
    have := i.isLt
    rw [BitVec.toNat_ofNat]
    omega
  have := i.isLt
  exact (decode_wt_wave v (by omega) (by omega)).1

/-- A byte as a signed number, by its two halves of the range (decision D23). -/
theorem signedByte_eq (v : Byte) :
    signedByte v = if v.toNat < 128 then (v.toNat : Int) else (v.toNat : Int) - 256 := by
  rw [signedByte, BitVec.toInt_eq_toNat_cond]
  split <;> split <;> omega

/-- Settles O36: the one store of a table entry. -/
theorem waveWriteSetsOneTableEntry : Obligations.WaveWriteSetsOneTableEntry := by
  intro ch i v s
  refine ⟨decode_wtW_wave ch i v, _, exec_of_writes (.wave ch i v), rfl, ?_, fun ch' j hother => ?_, rfl⟩
  · rw [← signedByte_eq, setWave_waveByte, if_pos ⟨rfl, rfl⟩]
  · rw [setWave_waveByte, if_neg]
    rintro ⟨rfl, rfl⟩
    simp at hother

/-! ### The period pairs (R131, R132, R143) -/

/-- `t` is `s` after a successful write that leaves period `p` in wavetable channel `ch`, its limit following
exactly, and nothing else different. -/
structure WtPeriodWritten (ch : Fin 5) (p : Period) (s t : State) : Prop where
  result : t.result = .ok
  period : t.wt.period[ch] = p
  limit : (t.wt.limit[ch]).toNat = (t.wt.period[ch]).toNat * s.cfg.wtLimitScale * s.cfg.sampleRate
  others : ∀ d : Fin 5, d ≠ ch → t.wt.period[d] = s.wt.period[d] ∧ t.wt.limit[d] = s.wt.limit[d]
  frame : t = { s with wt := { s.wt with period := t.wt.period, limit := t.wt.limit }, result := .ok }

/-- The one store behind both addresses of a pair. -/
theorem setWtPeriod_written (ch : Fin 5) (p : Period) (s : State) :
    WtPeriodWritten ch p s { s.setWtPeriod ch p with result := .ok } where
  result := rfl
  period := by simp
  limit := by simp [wtLimit_toNat]
  others d hd := by
    simp only [State.setWtPeriod_wt_period, State.setWtPeriod_wt_limit, vector_set_get, if_neg hd, and_self]
  frame := rfl

theorem exec_wtwPerl_written (ch : Fin 5) (v : Byte) (s : State) :
    ∃ t, exec (.wtwPerl ch v) s = .next t ∧
      WtPeriodWritten ch (periodWithHalf (wtEvenHalf s.cfg.wtPeriodSelect) s.wt.period[ch] v) s t :=
  ⟨_, exec_of_writes (.wtPeriodEven ch v), setWtPeriod_written ch _ s⟩

theorem exec_wtwPerh_written (ch : Fin 5) (v : Byte) (s : State) :
    ∃ t, exec (.wtwPerh ch v) s = .next t ∧
      WtPeriodWritten ch (periodWithHalf (wtOddHalf s.cfg.wtPeriodSelect) s.wt.period[ch] v) s t :=
  ⟨_, exec_of_writes (.wtPeriodOdd ch v), setWtPeriod_written ch _ s⟩

/-- Under the reference selection the even address is the low half. -/
theorem exec_wtwPerl_low (ch : Fin 5) (v : Byte) (hsel : s.cfg.wtPeriodSelect = .evenLowOddHigh) :
    ∃ t, exec (.wtwPerl ch v) s = .next t ∧ WtPeriodWritten ch (periodWithLow s.wt.period[ch] v) s t := by
  have h := exec_wtwPerl_written ch v s
  rwa [hsel] at h

/-- Under the reference selection the odd address is the high half. -/
theorem exec_wtwPerh_high (ch : Fin 5) (v : Byte) (hsel : s.cfg.wtPeriodSelect = .evenLowOddHigh) :
    ∃ t, exec (.wtwPerh ch v) s = .next t ∧ WtPeriodWritten ch (periodWithHigh s.wt.period[ch] v) s t := by
  have h := exec_wtwPerh_written ch v s
  rwa [hsel] at h

/-- Settles O37: the two halves by the listing's masks, and the pair that composes both. -/
theorem wtPeriodWritesSetPeriodAndLimit : Obligations.WtPeriodWritesSetPeriodAndLimit := by
  intro ch v s hsel
  refine ⟨?_, ?_, fun p => ?_⟩
  · obtain ⟨t, hexec, hw⟩ := exec_wtwPerl_low ch v hsel
    exact ⟨t, hexec, hw.result, by rw [hw.period, periodWithLow_eq_mask], hw.limit, hw.others, hw.frame⟩
  · obtain ⟨t, hexec, hw⟩ := exec_wtwPerh_high ch v hsel
    exact ⟨t, hexec, hw.result, by rw [hw.period, periodWithHigh_eq_mask], hw.limit, hw.others, hw.frame⟩
  · obtain ⟨t, hlow, hwl⟩ := exec_wtwPerl_low ch (Pseudo.lowByte p) hsel
    have hcfg : t.cfg = s.cfg := by rw [hwl.frame]
    obtain ⟨u, hhigh, hwh⟩ := exec_wtwPerh_high ch (Pseudo.highByte p) (hcfg ▸ hsel)
    have hp : u.wt.period[ch] = p := by rw [hwh.period, hwl.period, periodWithHigh_periodWithLow]
    exact ⟨t, u, hlow, hhigh, hp, by rw [hwh.limit, hp, hcfg]⟩

/-- Settles O38: both addresses reach the half that the configuration names. -/
theorem upstreamLiteralPairIsOneRegister : Obligations.UpstreamLiteralPairIsOneRegister := by
  intro ch v half s hsel
  obtain ⟨t, hexec, hw⟩ := exec_wtwPerl_written ch v s
  have hperiod := hw.period
  rw [hsel, wtEvenHalf_upstreamLiteral] at hperiod
  refine ⟨?_, ?_, t, hexec, hw.result, ?_, ?_, hw.limit, hw.frame⟩
  · rw [exec_wtwPerl, exec_wtwPerh, State.writeWtPeriodEven, State.writeWtPeriodOdd, hsel]
    rfl
  · rw [exec_wtrPerl, exec_wtrPerh, State.readWtPeriodEven, State.readWtPeriodOdd, hsel]
    rfl
  · rintro rfl
    rw [hperiod, periodWithHalf, periodWithLow_toNat]
    have := v.isLt
    omega
  · rintro rfl
    rw [hperiod, periodWithHalf, periodWithHigh_toNat]
    omega

/-- Settles O43: the halves that each selection names, as numbers. -/
theorem wtPeriodReadsReturnTheSelectedHalves : Obligations.WtPeriodReadsReturnTheSelectedHalves := by
  intro ch s
  refine ⟨_, _, exec_of_replies (.wtPeriodEven ch), exec_of_replies (.wtPeriodOdd ch), ⟨rfl, rfl, rfl⟩,
    ⟨rfl, rfl, rfl⟩, ⟨rfl, rfl, rfl⟩, ⟨rfl, rfl, rfl⟩, ?_⟩
  rw [← periodLow_eq_ofNat, ← periodHigh_eq_ofNat]
  refine ⟨fun hsel => ?_, fun hsel => ?_, fun hsel => ?_⟩
  all_goals
    simp only [hsel]
    exact ⟨rfl, rfl⟩

/-! ### The volume (R133) -/

theorem decode_wtW_volume (ch : Fin 5) (v : Byte) :
    decode (Event.wtW (BitVec.ofNat 8 (0xaa + ch.val)) v) = .ok (.wtwVol ch v) := by
  rw [decode_wtW]
  fin_cases ch <;> rfl

/-- An unmuted channel plays its table entry times its volume (R151). -/
theorem Wt.channelOut_of_unmuted {wt : Wt} {ch : Fin 5} (h : wt.mute.getLsbD ch.val = false) :
    wt.channelOut ch = (wt.waveByte ch wt.offset[ch]).toInt * ((wt.volume[ch]).toNat : Int) := by
  rw [Wt.channelOut, wtToneEnabled, h]
  rfl

/-- Volume 0 silences a channel, muted or not. -/
theorem Wt.channelOut_of_volume_zero {wt : Wt} {ch : Fin 5} (h : (wt.volume[ch]).toNat = 0) :
    wt.channelOut ch = 0 := by
  cases hmute : wt.mute.getLsbD ch.val with
  | false => rw [Wt.channelOut_of_unmuted hmute, h, Nat.cast_zero, mul_zero]
  | true => exact Wt.channelOut_of_muted (by rw [wtToneEnabled, hmute, Bool.not_true])

/-- Settles O39: the one store of the volume, and the product that a channel plays. -/
theorem volumeWriteSetsTheVolume : Obligations.VolumeWriteSetsTheVolume := by
  intro ch v s
  have hvolume : ((s.setVolume ch (volumeField v)).wt.volume[ch]).toNat = v.toNat % 16 := by
    rw [State.setVolume_wt_volume, vector_set_get, if_pos rfl, volumeField_toNat]
  refine ⟨decode_wtW_volume ch v, _, exec_of_writes (.volume ch v), rfl, hvolume, fun hmute => ?_, fun hzero => ?_,
    fun d hd => ?_, rfl⟩
  · rw [Wt.channelOut_of_unmuted hmute, hvolume]
  · exact Wt.channelOut_of_volume_zero (hvolume.trans hzero)
  · rw [State.setVolume_wt_volume, vector_set_get, if_neg hd]

/-! ### The addresses above the registers (R140, R145) -/

theorem wtHighAccepted_of_mem {cfg : Configuration} {reg : Byte} (h : reg ∈ cfg.wtHighAccept) :
    wtHighAccepted cfg reg = true := by
  simpa [wtHighAccepted] using h

theorem wtHighAccepted_of_not_mem {cfg : Configuration} {reg : Byte} (h : reg ∉ cfg.wtHighAccept) :
    wtHighAccepted cfg reg = false := by
  simpa [wtHighAccepted] using h

/-- Settles O41: the accepted flag decides the result and the drawn byte, nothing else. -/
theorem highWtAccessesFollowTheParameter : Obligations.HighWtAccessesFollowTheParameter := by
  intro reg v s hreg
  refine ⟨by rw [decode_wtW, decodeWtWrite_high v hreg], by rw [decode_wtR, decodeWtRead_high hreg], _, _,
    exec_of_replies (.highWrite reg v), exec_of_replies (.high reg), fun hmem => ?_, fun hmem => ?_⟩
  · simp [wtHighAccepted_of_mem hmem]
  · simp [wtHighAccepted_of_not_mem hmem]

/-! ### The reads (R142, R144) -/

/-- Settles O42: a read gives the field as a number, and a written field is the masked byte. -/
theorem waveVolumeAndMuteReadBack : Obligations.WaveVolumeAndMuteReadBack := by
  refine ⟨fun ch i s => exec_of_replies (.wave ch i), fun ch i v s => ?_, fun ch s => ?_, fun s => ?_, fun v s => ?_⟩
  · refine ⟨_, _, exec_of_writes (.wave ch i v), exec_of_replies (.wave ch i), ?_⟩
    exact congrArg OpResult.byte ((setWave_waveByte s ch ch i i v).trans (if_pos ⟨rfl, rfl⟩))
  · rw [← zeroExtend8_eq_ofNat (by decide)]
    exact exec_of_replies (.volume ch)
  · rw [← zeroExtend8_eq_ofNat (by decide)]
    exact exec_of_replies .mute
  · exact ⟨_, _, exec_of_writes (.mute v), exec_of_replies .mute,
      congrArg OpResult.byte (zeroExtend8_extractLsb' (by decide) v)⟩

end Sys2Proof.Machine
end

section
/-! The generators in a TICK (41_psg_tick.md, 43_wt_tick.md): the closed form of an advance against the source's
subtract loop, its bounds, and the generator whose limit is 0. -/

namespace Sys2Proof.Machine

variable {s t u : State}

/-! ### The source's loop -/

/-- With enough rounds the loop leaves the remainder and has acted once per quotient. -/
theorem sourceLoop_of_pos {α : Type} (act : α → α) {fuel count limit : Nat} (a : α) (hpos : 0 < limit)
    (hfuel : count / limit ≤ fuel) :
    sourceLoop act fuel count limit a = (count % limit, act^[count / limit] a) := by
  induction fuel generalizing count a with
  | zero =>
    have hzero : count / limit = 0 := Nat.le_zero.mp hfuel
    rw [sourceLoop, hzero, Nat.mod_eq_of_lt ((Nat.div_eq_zero_iff_lt hpos).mp hzero)]
    rfl
  | succ fuel ih =>
    rw [sourceLoop]
    by_cases hle : limit ≤ count
    · have hdiv : count / limit = (count - limit) / limit + 1 := by rw [Nat.div_eq_sub_div hpos hle]
      rw [if_pos ⟨hle, hpos⟩, ih (act a) (by omega), hdiv, Function.iterate_succ_apply, Nat.mod_eq_sub_mod hle]
    · have hlt : count < limit := Nat.lt_of_not_le hle
      rw [if_neg fun h => hle h.1, Nat.mod_eq_of_lt hlt, Nat.div_eq_of_lt hlt]
      rfl

/-- With the limit 0 the loop does nothing. -/
theorem sourceLoop_of_zero {α : Type} (act : α → α) (fuel count : Nat) (a : α) :
    sourceLoop act fuel count 0 a = (count, a) := by
  cases fuel with
  | zero => rfl
  | succ fuel => rw [sourceLoop, if_neg (by simp)]

/-- The closed form of R110 is the source's loop from the wrapped sum. -/
theorem sourceLoop_eq_oscAdvance {α : Type} (act : α → α) (count limit : Acc) (step : Nat) {fuel : Nat} (a : α)
    (hfuel : 2 ^ 32 ≤ fuel) :
    sourceLoop act fuel ((count.toNat + step) % 2 ^ 32) limit.toNat a =
      ((oscAdvance count limit step).1.toNat, act^[(oscAdvance count limit step).2] a) := by
  obtain hzero | hpos := Nat.eq_zero_or_pos limit.toNat
  · rw [oscAdvance_of_zero step hzero, hzero, sourceLoop_of_zero, BitVec.toNat_ofNat]
    rfl
  · obtain ⟨hcount, hexpiries⟩ := oscAdvance_of_pos (count := count) step hpos
    have hquot := Nat.div_le_self ((count.toNat + step) % 2 ^ 32) limit.toNat
    have hlt := Nat.mod_lt (count.toNat + step) (Nat.two_pow_pos 32)
    rw [hcount, hexpiries, sourceLoop_of_pos act a hpos (by omega)]

/-! ### What the expiries do to the three kinds of phase -/

/-- Flipping once per expiry is R111's parity. -/
theorem iterate_not (k : Nat) (on : Bool) : (fun b => !b)^[k] on = flipPhase on k := by
  induction k with
  | zero => simp [flipPhase]
  | succ k ih =>
    rw [Function.iterate_succ_apply', ih, flipPhase, flipPhase]
    obtain hk | hk := Nat.mod_two_eq_zero_or_one k
    · simp [hk, Nat.add_mod]
    · simp [hk, Nat.add_mod]

/-- Stepping the offset once per expiry is one addition modulo 32. -/
theorem iterate_offset (k : Nat) (o : BitVec 5) : (fun o : BitVec 5 => o + 1)^[k] o = o + BitVec.ofNat 5 k := by
  induction k with
  | zero => simp
  | succ k ih =>
    rw [Function.iterate_succ_apply', ih, BitVec.add_assoc, BitVec.ofNat_add]
    rfl

theorem clockStep_eq (s : State) :
    s.clockStep = if s.clk = .nominal then s.cfg.stepNominal else s.cfg.stepAlt := by
  cases h : s.clk <;> simp [State.clockStep, h]

/-- Settles O44: each of the nine advances is the loop, and its act repeated is the model's phase. -/
theorem tickRunsTheSourceLoopOnEveryGenerator : Obligations.TickRunsTheSourceLoopOnEveryGenerator := by
  intro s
  have htick := exec_of_effect (Effect.tick (s := s))
  refine ⟨_, _, htick, rfl, fun step fuel hstep hfuel => ?_⟩
  rw [← clockStep_eq] at hstep
  subst hstep
  refine ⟨fun c => ?_, ?_, fun ch => ?_⟩
  · obtain ⟨hcount, hon⟩ := exec_tick_tone htick c
    rw [hcount, hon, sourceLoop_eq_oscAdvance _ _ _ _ _ hfuel, iterate_not]
  · obtain ⟨hcount, hseed⟩ := exec_tick_noise htick
    rw [hcount, hseed, sourceLoop_eq_oscAdvance _ _ _ _ _ hfuel, lfsrAdvance]
  · obtain ⟨hcount, hoffset⟩ := exec_tick_wtChannel htick ch
    rw [hcount, hoffset, sourceLoop_eq_oscAdvance _ _ _ _ _ hfuel, iterate_offset]

/-- Settles O45: the state that TICK leaves, field by field. -/
theorem tickWritesOnlyTheGenerators : Obligations.TickWritesOnlyTheGenerators :=
  fun _ => ⟨_, _, exec_of_effect .tick, rfl⟩

/-! ### Bounds (R14, R110) -/

theorem oscAdvance_count_lt {count limit : Acc} (step : Nat) (h : 0 < limit.toNat) :
    (oscAdvance count limit step).1.toNat < limit.toNat := by
  rw [(oscAdvance_of_pos step h).1]
  exact Nat.mod_lt _ h

/-- TICK leaves the limits alone. -/
theorem exec_tick_limits (h : exec .tick s = .next u) :
    u.psg.limit = s.psg.limit ∧ u.psg.nlimit = s.psg.nlimit ∧ u.wt.limit = s.wt.limit := by
  rw [exec_tick_next] at h
  subst h
  exact ⟨rfl, rfl, rfl⟩

/-- Settles O47: each count is a remainder of its limit. -/
theorem countsAreBelowNonZeroLimitsAfterTick : Obligations.CountsAreBelowNonZeroLimitsAfterTick := by
  intro s t htick
  obtain ⟨hlimit, hnlimit, hwtlimit⟩ := exec_tick_limits htick
  rw [hlimit, hnlimit, hwtlimit]
  refine ⟨fun c hpos => ?_, fun hpos => ?_, fun ch hpos => ?_⟩
  · rw [(exec_tick_tone htick c).1]
    exact oscAdvance_count_lt _ hpos
  · rw [(exec_tick_noise htick).1]
    exact oscAdvance_count_lt _ hpos
  · rw [(exec_tick_wtChannel htick ch).1]
    exact oscAdvance_count_lt _ hpos

theorem oscAdvance_expiries_le {count limit : Acc} (step : Nat) (h : 0 < limit.toNat) :
    (oscAdvance count limit step).2 ≤ (2 ^ 32 - 1) / limit.toNat := by
  rw [(oscAdvance_of_pos step h).2]
  have hlt := Nat.mod_lt (count.toNat + step) (Nat.two_pow_pos 32)
  exact Nat.div_le_div_right (by omega)

/-- From below the limit a step adds at most its own quotient and one more expiry. -/
theorem oscAdvance_expiries_le_of_lt {count limit : Acc} (step : Nat) (h : count.toNat < limit.toNat) :
    (oscAdvance count limit step).2 ≤ step / limit.toNat + 1 := by
  have hpos : 0 < limit.toNat := by omega
  rw [(oscAdvance_of_pos step hpos).2, ← Nat.add_div_right step hpos]
  have hmod := Nat.mod_le (count.toNat + step) (2 ^ 32)
  exact Nat.div_le_div_right (by omega)

/-- Settles O48: the two bounds of an advance, and R5 (b) for the limits of a consistent state. -/
theorem expiriesOfOneAdvanceAreBounded : Obligations.ExpiriesOfOneAdvanceAreBounded := by
  refine ⟨fun count limit step hpos =>
    ⟨oscAdvance_expiries_le step hpos, oscAdvance_expiries_le_of_lt step⟩, fun s hs => ?_⟩
  obtain ⟨htone, hnoise, hwt⟩ := configuration_limits s.cfg
  have hstep := clockStep_le s
  refine ⟨fun c hlt => ?_, fun hlt => ?_, fun ch hlt => ?_⟩
  · have hp : (s.psg.period[c]).toNat * 16 * s.cfg.sampleRate ≤ 4095 * 16 * s.cfg.sampleRate :=
      Nat.mul_le_mul_right _ (by have := (s.psg.period[c]).isLt; omega)
    rw [hs.toneLimits c] at hlt
    omega
  · have hp : s.psg.np.toNat * s.cfg.noiseLimitScale * s.cfg.sampleRate ≤
        31 * s.cfg.noiseLimitScale * s.cfg.sampleRate :=
      Nat.mul_le_mul_right _ (Nat.mul_le_mul_right _ (by have := s.psg.np.isLt; omega))
    rw [hs.noiseLimits] at hlt
    omega
  · have hp : (s.wt.period[ch]).toNat * s.cfg.wtLimitScale * s.cfg.sampleRate ≤
        4095 * s.cfg.wtLimitScale * s.cfg.sampleRate :=
      Nat.mul_le_mul_right _ (Nat.mul_le_mul_right _ (by have := (s.wt.period[ch]).isLt; omega))
    rw [hs.wtLimits ch] at hlt
    omega

/-! ### A limit of 0 (R118, R154) -/

theorem oscAdvance_zero_toNat {count limit : Acc} (step : Nat) (h : limit.toNat = 0) :
    (oscAdvance count limit step).1.toNat = (count.toNat + step) % 2 ^ 32 ∧ (oscAdvance count limit step).2 = 0 := by
  rw [oscAdvance_of_zero step h]
  exact ⟨BitVec.toNat_ofNat _ _, rfl⟩

theorem flipPhase_zero (on : Bool) : flipPhase on 0 = on := by simp [flipPhase]

/-- Settles O49: the closed form in its two cases, with no expiry where the limit is 0. -/
theorem zeroLimitFreezesThePhaseOnly : Obligations.ZeroLimitFreezesThePhaseOnly := by
  intro s t htick
  obtain ⟨hncount, hseed⟩ := exec_tick_noise htick
  refine ⟨fun c hzero => ?_, fun c hpos => ?_, fun hzero => ?_, fun hpos => ?_, fun ch hzero => ?_, fun ch hpos => ?_⟩
  · obtain ⟨hcount, hon⟩ := exec_tick_tone htick c
    obtain ⟨hfst, hsnd⟩ := oscAdvance_zero_toNat (count := s.psg.count[c]) s.clockStep hzero
    rw [hcount, hon, hsnd]
    exact ⟨flipPhase_zero _, hfst⟩
  · obtain ⟨hcount, hon⟩ := exec_tick_tone htick c
    obtain ⟨hfst, hsnd⟩ := oscAdvance_of_pos (count := s.psg.count[c]) s.clockStep hpos
    rw [hcount, hon, hsnd]
    exact ⟨hfst, rfl⟩
  · obtain ⟨hfst, hsnd⟩ := oscAdvance_zero_toNat (count := s.psg.ncount) s.clockStep hzero
    rw [hncount, hseed, hsnd]
    exact ⟨rfl, hfst⟩
  · obtain ⟨hfst, hsnd⟩ := oscAdvance_of_pos (count := s.psg.ncount) s.clockStep hpos
    rw [hncount, hseed, hsnd]
    exact ⟨hfst, rfl⟩
  · obtain ⟨hcount, hoffset⟩ := exec_tick_wtChannel htick ch
    obtain ⟨hfst, hsnd⟩ := oscAdvance_zero_toNat (count := s.wt.count[ch]) s.clockStep hzero
    rw [hcount, hoffset, hsnd]
    exact ⟨BitVec.add_zero _, hfst⟩
  · obtain ⟨hcount, hoffset⟩ := exec_tick_wtChannel htick ch
    obtain ⟨hfst, hsnd⟩ := oscAdvance_of_pos (count := s.wt.count[ch]) s.clockStep hpos
    rw [hcount, hoffset, hsnd]
    exact ⟨hfst, by rw [BitVec.toNat_add, BitVec.toNat_ofNat, Nat.add_mod_mod]⟩

end Sys2Proof.Machine
end

section
/-! The output word (41_psg_tick.md section 4, 43_wt_tick.md, 44_mixer_tick.md): the sums by the truth table and by
the products, the blend without wrap, silence, and the byte written before a TICK. -/

namespace Sys2Proof.Machine

variable {s t u : State}

/-! ### The PSG sum (R115, R116) -/

/-- The combination is the truth table, for each of the three modes. -/
theorem combineChannel_toNat (m : Config.Combine) (t n o b : Bool) (a : Byte) :
    (combineChannel m t n o b a).toNat = truthTable m t n o b a.toNat := by
  cases m <;> cases t <;> cases n <;> cases o <;> cases b <;> rfl

theorem noiseBit_eq (psg : Psg) : noiseBit psg = decide (psg.seed.toNat % 2 = 1) :=
  Nat.testBit_zero _

theorem psg_sum_eq_truthTableSum (t : State) : t.psg.sum t.cfg = truthTableSum t := by
  have hsum : truthTableSum t = _ + (_ + (_ + 0)) := rfl
  simp only [hsum, Psg.sum, Psg.channelOut, combineChannel_toNat, noiseBit_eq, Nat.add_assoc, Nat.add_zero]
  rfl

theorem psg_sum_le (cfg : Configuration) (psg : Psg) : psg.sum cfg ≤ 765 := by
  have h0 := (psg.channelOut cfg 0).isLt
  have h1 := (psg.channelOut cfg 1).isLt
  have h2 := (psg.channelOut cfg 2).isLt
  rw [Psg.sum]
  omega

/-! ### The WT sum (R151, R152) -/

theorem Wt.channelOut_eq (wt : Wt) (ch : Fin 5) :
    wt.channelOut ch = if wt.mute.getLsbD ch.val then 0
      else (wt.waveByte ch wt.offset[ch]).toInt * ((wt.volume[ch]).toNat : Int) := by
  cases hmute : wt.mute.getLsbD ch.val with
  | false => exact Wt.channelOut_of_unmuted hmute
  | true => exact Wt.channelOut_of_muted (by rw [wtToneEnabled, hmute, Bool.not_true])

theorem wt_sum_eq_unmutedSum (t : State) : t.wt.sum = unmutedSum t := by
  have hsum : unmutedSum t = _ + (_ + (_ + (_ + (_ + 0)))) := rfl
  simp only [hsum, Wt.sum, Wt.channelOut_eq, Int.add_assoc, Int.add_zero]
  rfl

/-- A signed byte times a volume of four bits. -/
theorem signed_product_bounds {x : Int} {v : Nat} (hlo : -128 ≤ x) (hhi : x ≤ 127) (hv : v ≤ 15) :
    -1920 ≤ x * (v : Int) ∧ x * (v : Int) ≤ 1905 := by
  have hv' : (v : Int) ≤ 15 := by omega
  constructor <;> nlinarith

theorem Wt.channelOut_bounds (wt : Wt) (ch : Fin 5) : -1920 ≤ wt.channelOut ch ∧ wt.channelOut ch ≤ 1905 := by
  rw [Wt.channelOut_eq]
  split
  · omega
  · have hlo := BitVec.le_toInt (wt.waveByte ch wt.offset[ch])
    have hhi := BitVec.toInt_lt (x := wt.waveByte ch wt.offset[ch])
    have hvol := (wt.volume[ch]).isLt
    exact signed_product_bounds (by omega) (by omega) (by omega)

theorem wt_sum_bounds (wt : Wt) : -9600 ≤ wt.sum ∧ wt.sum ≤ 9525 := by
  have h0 := wt.channelOut_bounds 0
  have h1 := wt.channelOut_bounds 1
  have h2 := wt.channelOut_bounds 2
  have h3 := wt.channelOut_bounds 3
  have h4 := wt.channelOut_bounds 4
  rw [Wt.sum]
  omega

/-! ### The blend (R162, R163) -/

/-- In the ranges of the two sums no blend wraps. -/
theorem blendInt_bounds (b : Config.Blend) {p : Nat} {w : Int} (hp : p ≤ 765) (hlo : -9600 ≤ w) (hhi : w ≤ 9525) :
    0 ≤ blendInt b p w ∧ blendInt b p w < 65536 := by
  cases b <;> simp only [blendInt, Int.ofNat_eq_natCast] <;> omega

/-- So the output word is the exact blend. -/
theorem blendWord_toNat (b : Config.Blend) {p : Nat} {w : Int} (hp : p ≤ 765) (hlo : -9600 ≤ w) (hhi : w ≤ 9525) :
    ((blendWord b p w).toNat : Int) = blendInt b p w := by
  have hbounds := blendInt_bounds b hp hlo hhi
  rw [blendWord, BitVec.toNat_ofInt]
  omega

/-- The word of a TICK is the blend of the sums of the state it leaves. -/
theorem exec_tick_result (h : exec .tick s = .next t) :
    t.result = .sample (blendWord s.cfg.blend (t.psg.sum t.cfg) t.wt.sum) := by
  rw [exec_tick_next] at h
  subst h
  rfl

/-- Settles O46: the two sums are the spec's own, and their ranges leave the blend within 16 bits. -/
theorem tickOutputIsTheExactBlend : Obligations.TickOutputIsTheExactBlend := by
  intro s t htick
  have hp := psg_sum_le t.cfg t.psg
  obtain ⟨hlo, hhi⟩ := wt_sum_bounds t.wt
  refine ⟨_, exec_tick_result htick, ?_⟩
  rw [psg_sum_eq_truthTableSum, wt_sum_eq_unmutedSum] at *
  have hword := blendWord_toNat s.cfg.blend hp hlo hhi
  refine ⟨hp, hlo, hhi, fun hblend => ?_, fun hblend => ?_, fun hblend => ?_⟩
  all_goals
    rw [hblend] at hword ⊢
    simp only [blendInt, Int.ofNat_eq_natCast] at hword
    omega

/-! ### Silence (R165) -/

/-- Where no noise of the chip's own kind is mixed in, a channel with both paths disabled outputs 0. -/
theorem Psg.channelOut_of_disabled {cfg : Configuration} {psg : Psg} {c : Fin 3} (hcombine : cfg.combine ≠ .chipOr)
    (htone : toneEnabled cfg psg c = false) (hnoise : noiseEnabled cfg psg c = false) : psg.channelOut cfg c = 0 := by
  rw [Psg.channelOut, htone, hnoise]
  cases h : cfg.combine with
  | chipOr => exact absurd h hcombine
  | gateAnd | replace => rfl

theorem silentWord_eq (cfg : Configuration) :
    silentWord cfg = (match cfg.blend with | .psgOnly => 0 | .wtOnly => 0x8000 | .both => 0x4000) := by
  rw [silentWord]
  cases cfg.blend <;> rfl

/-- Settles O50: the enables are not what a TICK changes, so both sums are 0. -/
theorem disabledChannelsGiveTheSilentWord : Obligations.DisabledChannelsGiveTheSilentWord := by
  intro s hcombine hdisabled hmuted
  refine ⟨_, exec_of_effect .tick, congrArg OpResult.sample ?_, silentWord_eq s.cfg⟩
  have hpsg : ∀ c : Fin 3, s.advanceEngines.psg.channelOut s.cfg c = 0 := fun c =>
    Psg.channelOut_of_disabled hcombine (hdisabled c).1 (hdisabled c).2
  have hwt : ∀ ch : Fin 5, s.advanceEngines.wt.channelOut ch = 0 := fun ch => by
    rw [Wt.channelOut_eq]
    exact if_pos (hmuted ch)
  rw [State.outputWord, State.advanceEngines_cfg, Psg.sum, Wt.sum, hpsg, hpsg, hpsg, hwt, hwt, hwt, hwt, hwt]
  rfl

/-! ### A waveform byte written before a TICK (R52, R153) -/

/-- A channel's output reads one table entry, the one at its offset. -/
theorem Wt.channelOut_congr {wt wt' : Wt} {ch : Fin 5} (hmute : wt'.mute = wt.mute) (hvolume : wt'.volume = wt.volume)
    (hoffset : wt'.offset = wt.offset)
    (hwave : wt'.waveByte ch wt.offset[ch] = wt.waveByte ch wt.offset[ch]) :
    wt'.channelOut ch = wt.channelOut ch := by
  rw [Wt.channelOut_eq, Wt.channelOut_eq, hmute, hvolume, hoffset, hwave]

/-- The advance of the WT engine neither reads nor writes the tables. -/
theorem advanceEngines_waveByte (s : State) (ch : Fin 5) (i : BitVec 5) :
    s.advanceEngines.wt.waveByte ch i = s.wt.waveByte ch i := rfl

/-- The write of one table entry is heard where the offset of its channel lands on it, and nowhere else. -/
theorem setWave_channelOut (s : State) (ch d : Fin 5) (i : BitVec 5) (v : Byte)
    (h : d ≠ ch ∨ s.advanceEngines.wt.offset[ch] ≠ i) :
    (s.setWave ch i v).advanceEngines.wt.channelOut d = s.advanceEngines.wt.channelOut d := by
  refine Wt.channelOut_congr rfl rfl rfl ?_
  rw [advanceEngines_waveByte, advanceEngines_waveByte, setWave_waveByte, if_neg]
  rintro ⟨rfl, hi⟩
  exact h.elim (fun hne => hne rfl) (fun hne => hne hi)

/-- Settles O51: the two TICKs side by side, with and without the write before them. -/
theorem waveWriteIsHeardByTheNextTick : Obligations.WaveWriteIsHeardByTheNextTick := by
  intro ch i v s
  refine ⟨_, _, _, exec_of_writes (.wave ch i v), exec_of_effect .tick, exec_of_effect .tick, rfl, rfl, rfl, rfl,
    fun hoffset hmute => ?_, fun hoffset => congrArg OpResult.sample ?_,
    fun d hd => setWave_channelOut s ch d i v (.inl hd)⟩
  · rw [Wt.channelOut_of_unmuted hmute, hoffset]
    congr 2
    exact (setWave_waveByte s ch ch i i v).trans (if_pos ⟨rfl, rfl⟩)
  · have hout : ∀ d : Fin 5, (s.setWave ch i v).advanceEngines.wt.channelOut d = s.advanceEngines.wt.channelOut d :=
      fun d => setWave_channelOut s ch d i v (.inr hoffset)
    have hsum : (s.setWave ch i v).advanceEngines.wt.sum = s.advanceEngines.wt.sum := by simp only [Wt.sum, hout]
    exact congrArg (blendWord s.cfg.blend (s.advanceEngines.psg.sum s.cfg)) hsum

end Sys2Proof.Machine
end

section
/-! RESET and what follows it (70_reset_and_hazards.md section 1). -/

namespace Sys2Proof.Machine

variable {s t u : State}

/-- Settles O56: RESET element by element. -/
theorem resetInstallsTheResetValues : Obligations.ResetInstallsTheResetValues := by
  intro s
  refine ⟨_, exec_of_effect .reset, rfl, ⟨rfl, rfl, rfl⟩, fun c => ?_, rfl, rfl, rfl, rfl, rfl, rfl, fun ch => ?_, rfl⟩
  · simp [Psg.initial, Params.volumeEntry]
  · simp [Wt.initial, Wt.waveByte]

/-! ### TICKs from reset (R201) -/

/-- The machine `m` TICKs after reset: every count at `m` steps, and nothing else moved. -/
def countedFromReset (cfg : Configuration) (m : Nat) (es : List EventWord) (r : OpResult) : State :=
  { State.resetWith cfg with
    psg := { Psg.initial cfg with
      count := Vector.replicate 3 (BitVec.ofNat 32 (m * cfg.stepNominal))
      ncount := BitVec.ofNat 32 (m * cfg.stepNominal) }
    wt := { Wt.initial with count := Vector.replicate 5 (BitVec.ofNat 32 (m * cfg.stepNominal)) }
    events := es
    result := r }

theorem vector_ofFn_const {α : Type} {n : Nat} (x : α) :
    (Vector.ofFn fun _ : Fin n => x) = Vector.replicate n x :=
  Vector.ext fun i hi => by simp

/-- With the limit 0 an advance counts one step on, and nothing expires. -/
theorem oscAdvance_counted (m step : Nat) :
    oscAdvance (BitVec.ofNat 32 (m * step)) 0#32 step = (BitVec.ofNat 32 ((m + 1) * step), 0) := by
  rw [oscAdvance_of_zero step rfl, Nat.succ_mul]
  congr 1
  apply BitVec.eq_of_toNat_eq
  simp

section
variable (cfg : Configuration) (m : Nat) (es : List EventWord) (r : OpResult)

theorem countedFromReset_zero :
    countedFromReset cfg 0 es .none = { State.resetWith cfg with events := es } := by
  simp [countedFromReset, State.resetWith, Psg.initial, Wt.initial]

theorem advanceEngines_countedFromReset :
    (countedFromReset cfg m es r).advanceEngines = countedFromReset cfg (m + 1) es r := by
  have hstep : (countedFromReset cfg m es r).clockStep = cfg.stepNominal := rfl
  simp only [State.advanceEngines, hstep]
  simp [countedFromReset, State.resetWith, Psg.initial, Wt.initial, Psg.advance, Wt.advance, Psg.toneAdvance,
    Psg.noiseAdvance, Wt.channelAdvance, oscAdvance_counted, flipPhase_zero, lfsrAdvance, vector_ofFn_const]

/-- The channel output of the reset state is R201's table: with the mixer at 0 all six enables are alike, every
phase is 0, and the noise bit is that of the first seed. -/
theorem channelOut_countedFromReset (c : Fin 3) :
    ((countedFromReset cfg m es r).psg.channelOut cfg c).toNat = resetChannelOut cfg := by
  have htone : toneEnabled cfg (countedFromReset cfg m es r).psg c = mixBitEnables cfg.mixSetMeans false := by
    simp [toneEnabled, countedFromReset, Psg.initial]
  have hnoise : noiseEnabled cfg (countedFromReset cfg m es r).psg c = mixBitEnables cfg.mixSetMeans false := by
    simp [noiseEnabled, countedFromReset, Psg.initial]
  have hon : (countedFromReset cfg m es r).psg.on[c] = false := by simp [countedFromReset, Psg.initial]
  have hout : (countedFromReset cfg m es r).psg.out[c] = cfg.volumeTable[1] := by
    simp [countedFromReset, Psg.initial, Params.volumeEntry]
  have hbit : noiseBit (countedFromReset cfg m es r).psg = decide (cfg.seedInit.toNat % 2 = 1) := noiseBit_eq _
  rw [Psg.channelOut, combineChannel_toNat, htone, hnoise, hon, hout, hbit, resetChannelOut]
  by_cases hodd : cfg.seedInit.toNat % 2 = 1
  · simp only [if_pos hodd, decide_eq_true hodd]
    cases cfg.mixSetMeans <;> cases cfg.combine <;> rfl
  · simp only [if_neg hodd, decide_eq_false hodd]
    cases cfg.mixSetMeans <;> cases cfg.combine <;> rfl

/-- No table byte and no volume is set after reset. -/
theorem wt_sum_countedFromReset : (countedFromReset cfg m es r).wt.sum = 0 := by
  have hout : ∀ ch : Fin 5, (countedFromReset cfg m es r).wt.channelOut ch = 0 := fun ch =>
    Wt.channelOut_of_volume_zero (by simp [countedFromReset, Wt.initial])
  simp only [Wt.sum, hout, Int.add_zero]

theorem outputWord_countedFromReset :
    (countedFromReset cfg m es r).outputWord = blendWord cfg.blend (3 * resetChannelOut cfg) 0 := by
  have hcfg : (countedFromReset cfg m es r).cfg = cfg := rfl
  have hsum : (countedFromReset cfg m es r).psg.sum cfg = 3 * resetChannelOut cfg := by
    simp only [Psg.sum, channelOut_countedFromReset]
    omega
  rw [State.outputWord, hcfg, hsum, wt_sum_countedFromReset]

/-- One TICK of the run: the counts go one step on, and the word is that of reset. -/
theorem step_countedFromReset :
    step (countedFromReset cfg m (Event.tick :: es) r) = .next (countedFromReset cfg (m + 1) es
      (.sample (blendWord cfg.blend (3 * resetChannelOut cfg) 0))) := by
  have hdecode : decode Event.tick = .ok .tick := rfl
  rw [step_of_decode rfl hdecode]
  change exec .tick (countedFromReset cfg m es r) = _
  rw [exec_tick_next, advanceEngines_countedFromReset, outputWord_countedFromReset]
  rfl

end

/-- A run of TICKs from reset counts them, and each of them returns the word of reset. -/
theorem run_countedFromReset (cfg : Configuration) (n m : Nat) (r : OpResult) :
    Host.Core.run Sys2Proof.core n (countedFromReset cfg m (List.replicate n Event.tick) r) =
      .next (countedFromReset cfg (m + n) []
        (if n = 0 then r else .sample (blendWord cfg.blend (3 * resetChannelOut cfg) 0))) := by
  induction n generalizing m r with
  | zero => rfl
  | succ n ih =>
    rw [List.replicate_succ, core_run_of_next n (step_countedFromReset cfg m _ r), ih, ite_self,
      if_neg (Nat.succ_ne_zero n), Nat.add_assoc m 1 n, Nat.add_comm 1 n]

theorem resetChannelOut_of_enable {cfg : Configuration} (hcombine : cfg.combine ≠ .chipOr)
    (hmeans : cfg.mixSetMeans = .enable) : resetChannelOut cfg = 0 := by
  rw [resetChannelOut, hmeans]
  cases h : cfg.combine with
  | chipOr => exact absurd h hcombine
  | gateAnd | replace => rfl

/-- Settles O57: the run that counts, from the reset state as its start. -/
theorem resetStateUnderTicksOnlyCounts : Obligations.ResetStateUnderTicksOnlyCounts := by
  intro cfg n
  have hrun := run_countedFromReset cfg n 0 .none
  rw [countedFromReset_zero, Nat.zero_add] at hrun
  refine ⟨_, hrun, rfl, rfl, rfl, rfl, rfl, fun hpos => if_neg (by omega), fun hcombine hmeans => ?_⟩
  rw [resetChannelOut_of_enable hcombine hmeans]
  rfl

end Sys2Proof.Machine
end
